-- ==== Sys2Proof/Word.lean ====
section
/-! DEFINITION. The two widths of the machine (spec 10_state.md): 8-bit registers, timers and memory bytes (R21, R31,
R36), and 16-bit words: pc, I, stack slots and instruction words (R25, R28, R29, R80). -/

namespace Sys2Proof

/-- A byte: a general register, a timer, a key entry, a memory cell (R21, R31, R33, R36). -/
abbrev Byte := BitVec 8

/-- A 16-bit word: `pc`, `I`, a return-stack slot, an instruction word (R25, R28, R29, R80). -/
abbrev Word := BitVec 16

/-- `{hi, lo}` of R8 for two bytes: the first byte is the high one (R65). -/
def wordOfBytes (hi lo : Byte) : Word := hi ++ lo

/-- `op[15:8]`. -/
def highByte (w : Word) : Byte := w.extractLsb' 8 8

/-- `op[7:0]`. -/
def lowByte (w : Word) : Byte := w.extractLsb' 0 8

end Sys2Proof
end

