-- ==== Sys2Proof/Syntax.lean ====
section
/-! DEFINITION. The 34 instructions of the opcode map (spec 30_encoding.md R90), one constructor per row, in the
table's order. Register fields X and Y are indices 0 to 15, N is a 4-bit, NN an 8-bit and NNN a 12-bit unsigned field
(R82, R83), so every term of `Instr` has exactly the operands its encoding can hold. -/

namespace Sys2Proof

/-- An instruction of R90. `x` and `y` are register indices (R82). `shrVx` and `shlVx` carry the field Y although their
meaning ignores it (R159, R161), so that no bit of the word is lost (assumption 14). -/
inductive Instr where
  /-- 00E0 -/
  | cls
  /-- 00EE -/
  | ret
  /-- 1NNN -/
  | jpNnn (nnn : BitVec 12)
  /-- 2NNN -/
  | callNnn (nnn : BitVec 12)
  /-- 3XNN -/
  | seVxNn (x : Fin 16) (nn : Byte)
  /-- 4XNN -/
  | sneVxNn (x : Fin 16) (nn : Byte)
  /-- 5XY0 -/
  | seVxVy (x y : Fin 16)
  /-- 6XNN -/
  | ldVxNn (x : Fin 16) (nn : Byte)
  /-- 7XNN -/
  | addVxNn (x : Fin 16) (nn : Byte)
  /-- 8XY0 -/
  | ldVxVy (x y : Fin 16)
  /-- 8XY1 -/
  | orVxVy (x y : Fin 16)
  /-- 8XY2 -/
  | andVxVy (x y : Fin 16)
  /-- 8XY3 -/
  | xorVxVy (x y : Fin 16)
  /-- 8XY4 -/
  | addVxVy (x y : Fin 16)
  /-- 8XY5 -/
  | subVxVy (x y : Fin 16)
  /-- 8XY6, Y ignored -/
  | shrVx (x y : Fin 16)
  /-- 8XY7 -/
  | subnVxVy (x y : Fin 16)
  /-- 8XYE, Y ignored -/
  | shlVx (x y : Fin 16)
  /-- 9XY0 -/
  | sneVxVy (x y : Fin 16)
  /-- ANNN -/
  | ldINnn (nnn : BitVec 12)
  /-- BNNN -/
  | jpV0Nnn (nnn : BitVec 12)
  /-- CXNN -/
  | rndVxNn (x : Fin 16) (nn : Byte)
  /-- DXYN -/
  | drwVxVyN (x y : Fin 16) (n : BitVec 4)
  /-- EX9E -/
  | skpVx (x : Fin 16)
  /-- EXA1 -/
  | sknpVx (x : Fin 16)
  /-- FX07 -/
  | ldVxDt (x : Fin 16)
  /-- FX0A -/
  | ldVxK (x : Fin 16)
  /-- FX15 -/
  | ldDtVx (x : Fin 16)
  /-- FX18 -/
  | ldStVx (x : Fin 16)
  /-- FX1E -/
  | addIVx (x : Fin 16)
  /-- FX29 -/
  | ldFVx (x : Fin 16)
  /-- FX33 -/
  | ldBVx (x : Fin 16)
  /-- FX55 -/
  | ldMemVx (x : Fin 16)
  /-- FX65 -/
  | ldVxMem (x : Fin 16)
  deriving DecidableEq, Repr

/-- The row of spec/opcode_table.json an instruction belongs to, by the table's spelling of its mnemonic. -/
def Instr.mnemonic : Instr → String
  | .cls => "CLS"
  | .ret => "RET"
  | .jpNnn _ => "JP_NNN"
  | .callNnn _ => "CALL_NNN"
  | .seVxNn _ _ => "SE_VX__NN"
  | .sneVxNn _ _ => "SNE_VX__NN"
  | .seVxVy _ _ => "SE_VX__VY"
  | .ldVxNn _ _ => "LD_VX__NN"
  | .addVxNn _ _ => "ADD_VX__NN"
  | .ldVxVy _ _ => "LD_VX__VY"
  | .orVxVy _ _ => "OR_VX__VY"
  | .andVxVy _ _ => "AND_VX__VY"
  | .xorVxVy _ _ => "XOR_VX__VY"
  | .addVxVy _ _ => "ADD_VX__VY"
  | .subVxVy _ _ => "SUB_VX__VY"
  | .shrVx _ _ => "SHR_VX"
  | .subnVxVy _ _ => "SUBN_VX__VY"
  | .shlVx _ _ => "SHL_VX"
  | .sneVxVy _ _ => "SNE_VX__VY"
  | .ldINnn _ => "LD_I__NNN"
  | .jpV0Nnn _ => "JP_V0__NNN"
  | .rndVxNn _ _ => "RND_VX__NN"
  | .drwVxVyN _ _ _ => "DRW_VX__VY__N"
  | .skpVx _ => "SKP_VX"
  | .sknpVx _ => "SKNP_VX"
  | .ldVxDt _ => "LD_VX__DT"
  | .ldVxK _ => "LD_VX__K"
  | .ldDtVx _ => "LD_DT__VX"
  | .ldStVx _ => "LD_ST__VX"
  | .addIVx _ => "ADD_I__VX"
  | .ldFVx _ => "LD_F__VX"
  | .ldBVx _ => "LD_B__VX"
  | .ldMemVx _ => "LD__I___VX"
  | .ldVxMem _ => "LD_VX___I"

end Sys2Proof
end

