-- ==== Sys2Proof/WellFormed.lean ====
section
/-! DEFINITION. Which words are well formed (spec 30_encoding.md R84, R90): the opcode map as rows of match and mask,
and the check "the word matches some row". A term of `Instr` needs no check: its field types admit exactly the operands
of R82. What can be ill formed is a word, by one of the six families of R86; the tests hold one refused word for each. -/

namespace Sys2Proof

/-- One row of the opcode map R90. -/
structure OpRow where
  /-- the row's mnemonic in spec/opcode_table.json -/
  mnemonic : String
  /-- the column `match` -/
  bits : Word
  /-- the column `mask` -/
  mask : Word
  deriving DecidableEq, Repr

/-- R84: the row matches the word, `(op & mask) == match`. -/
def OpRow.selects (r : OpRow) (op : Word) : Bool := op &&& r.mask == r.bits

/-- R90, rows 00E0 to 7XNN. -/
def opcodeTableLow : List OpRow :=
  [ ⟨"CLS", 0x00E0, 0xFFFF⟩, ⟨"RET", 0x00EE, 0xFFFF⟩, ⟨"JP_NNN", 0x1000, 0xF000⟩, ⟨"CALL_NNN", 0x2000, 0xF000⟩,
    ⟨"SE_VX__NN", 0x3000, 0xF000⟩, ⟨"SNE_VX__NN", 0x4000, 0xF000⟩, ⟨"SE_VX__VY", 0x5000, 0xF00F⟩,
    ⟨"LD_VX__NN", 0x6000, 0xF000⟩, ⟨"ADD_VX__NN", 0x7000, 0xF000⟩ ]

/-- R90, rows 8XY0 to 8XYE. -/
def opcodeTableAlu : List OpRow :=
  [ ⟨"LD_VX__VY", 0x8000, 0xF00F⟩, ⟨"OR_VX__VY", 0x8001, 0xF00F⟩, ⟨"AND_VX__VY", 0x8002, 0xF00F⟩,
    ⟨"XOR_VX__VY", 0x8003, 0xF00F⟩, ⟨"ADD_VX__VY", 0x8004, 0xF00F⟩, ⟨"SUB_VX__VY", 0x8005, 0xF00F⟩,
    ⟨"SHR_VX", 0x8006, 0xF00F⟩, ⟨"SUBN_VX__VY", 0x8007, 0xF00F⟩, ⟨"SHL_VX", 0x800E, 0xF00F⟩ ]

/-- R90, rows 9XY0 to EXA1. -/
def opcodeTableMid : List OpRow :=
  [ ⟨"SNE_VX__VY", 0x9000, 0xF00F⟩, ⟨"LD_I__NNN", 0xA000, 0xF000⟩, ⟨"JP_V0__NNN", 0xB000, 0xF000⟩,
    ⟨"RND_VX__NN", 0xC000, 0xF000⟩, ⟨"DRW_VX__VY__N", 0xD000, 0xF000⟩, ⟨"SKP_VX", 0xE09E, 0xF0FF⟩,
    ⟨"SKNP_VX", 0xE0A1, 0xF0FF⟩ ]

/-- R90, rows FX07 to FX65. -/
def opcodeTableMisc : List OpRow :=
  [ ⟨"LD_VX__DT", 0xF007, 0xF0FF⟩, ⟨"LD_VX__K", 0xF00A, 0xF0FF⟩, ⟨"LD_DT__VX", 0xF015, 0xF0FF⟩,
    ⟨"LD_ST__VX", 0xF018, 0xF0FF⟩, ⟨"ADD_I__VX", 0xF01E, 0xF0FF⟩, ⟨"LD_F__VX", 0xF029, 0xF0FF⟩,
    ⟨"LD_B__VX", 0xF033, 0xF0FF⟩, ⟨"LD__I___VX", 0xF055, 0xF0FF⟩, ⟨"LD_VX___I", 0xF065, 0xF0FF⟩ ]

/-- The complete opcode map R90, 34 rows. -/
def opcodeTable : List OpRow := opcodeTableLow ++ opcodeTableAlu ++ opcodeTableMid ++ opcodeTableMisc

/-- A word is well formed when some row of R90 matches it with every fixed nibble (R84). -/
def wordWellFormed (op : Word) : Bool := opcodeTable.any fun r => r.selects op

end Sys2Proof
end

