-- ==== Sys2Proof/Decode.lean ====
section
/-! DEFINITION. The instruction decoder and the encoder (spec 30_encoding.md R80 to R90). `decode` is total: every
16-bit word gives an instruction or `unknown op` (R85). It reads the family nibble first (R81) and then the fixed
nibbles of the family, strictly (R84). -/

namespace Sys2Proof

/-- What the decoder gives: R85, "Nothing else can come out of the decoder". -/
inductive Decoded where
  /-- one of the 34 instructions, with its fields -/
  | instr (i : Instr)
  /-- `UNKNOWN(op)`: the word matches no row -/
  | unknown (op : Word)
  deriving DecidableEq, Repr

/-- `op[15:12]`, the top nibble, which selects the family (R81). -/
def fieldFamily (op : Word) : BitVec 4 := op.extractLsb' 12 4
/-- `X = op[11:8]` (R82). -/
def fieldX (op : Word) : Fin 16 := (op.extractLsb' 8 4).toFin
/-- `Y = op[7:4]` (R82). -/
def fieldY (op : Word) : Fin 16 := (op.extractLsb' 4 4).toFin
/-- `N = op[3:0]` (R82). -/
def fieldN (op : Word) : BitVec 4 := op.extractLsb' 0 4
/-- `NN = op[7:0]` (R82). -/
def fieldNn (op : Word) : Byte := op.extractLsb' 0 8
/-- `NNN = op[11:0]` (R82). -/
def fieldNnn (op : Word) : BitVec 12 := op.extractLsb' 0 12

/-- Top nibble 0: two words only (R90, R86). -/
def decodeFixed (op : Word) : Decoded :=
  match op.toNat with
  | 0x00E0 => .instr .cls
  | 0x00EE => .instr .ret
  | _ => .unknown op

/-- Top nibble 8: the function nibble selects the operation (R162). -/
def decodeAlu (op : Word) : Decoded :=
  match (fieldN op).toNat with
  | 0x0 => .instr (.ldVxVy (fieldX op) (fieldY op))
  | 0x1 => .instr (.orVxVy (fieldX op) (fieldY op))
  | 0x2 => .instr (.andVxVy (fieldX op) (fieldY op))
  | 0x3 => .instr (.xorVxVy (fieldX op) (fieldY op))
  | 0x4 => .instr (.addVxVy (fieldX op) (fieldY op))
  | 0x5 => .instr (.subVxVy (fieldX op) (fieldY op))
  | 0x6 => .instr (.shrVx (fieldX op) (fieldY op))
  | 0x7 => .instr (.subnVxVy (fieldX op) (fieldY op))
  | 0xE => .instr (.shlVx (fieldX op) (fieldY op))
  | _ => .unknown op

/-- Top nibble E: the function byte must be 9E or A1 (R84). -/
def decodeKey (op : Word) : Decoded :=
  match (fieldNn op).toNat with
  | 0x9E => .instr (.skpVx (fieldX op))
  | 0xA1 => .instr (.sknpVx (fieldX op))
  | _ => .unknown op

/-- Top nibble F: the function byte must be one listed (R84). -/
def decodeMisc (op : Word) : Decoded :=
  match (fieldNn op).toNat with
  | 0x07 => .instr (.ldVxDt (fieldX op))
  | 0x0A => .instr (.ldVxK (fieldX op))
  | 0x15 => .instr (.ldDtVx (fieldX op))
  | 0x18 => .instr (.ldStVx (fieldX op))
  | 0x1E => .instr (.addIVx (fieldX op))
  | 0x29 => .instr (.ldFVx (fieldX op))
  | 0x33 => .instr (.ldBVx (fieldX op))
  | 0x55 => .instr (.ldMemVx (fieldX op))
  | 0x65 => .instr (.ldVxMem (fieldX op))
  | _ => .unknown op

/-- The instruction_decoder (R84, R85, R104): it reads the word and nothing else. -/
def decode (op : Word) : Decoded :=
  match (fieldFamily op).toNat with
  | 0x0 => decodeFixed op
  | 0x1 => .instr (.jpNnn (fieldNnn op))
  | 0x2 => .instr (.callNnn (fieldNnn op))
  | 0x3 => .instr (.seVxNn (fieldX op) (fieldNn op))
  | 0x4 => .instr (.sneVxNn (fieldX op) (fieldNn op))
  | 0x5 => if fieldN op = 0 then .instr (.seVxVy (fieldX op) (fieldY op)) else .unknown op
  | 0x6 => .instr (.ldVxNn (fieldX op) (fieldNn op))
  | 0x7 => .instr (.addVxNn (fieldX op) (fieldNn op))
  | 0x8 => decodeAlu op
  | 0x9 => if fieldN op = 0 then .instr (.sneVxVy (fieldX op) (fieldY op)) else .unknown op
  | 0xA => .instr (.ldINnn (fieldNnn op))
  | 0xB => .instr (.jpV0Nnn (fieldNnn op))
  | 0xC => .instr (.rndVxNn (fieldX op) (fieldNn op))
  | 0xD => .instr (.drwVxVyN (fieldX op) (fieldY op) (fieldN op))
  | 0xE => decodeKey op
  | _ => decodeMisc op

/-- The decoder on the two bytes of an instruction, the byte at the lower address first (R65, R102). -/
def decodeBytes (first second : Byte) : Decoded := decode (wordOfBytes first second)

/-- The word with the layout `FIXED` or `NNN` of R81: family nibble, then a 12-bit field. -/
def wordNnn (family : BitVec 4) (nnn : BitVec 12) : Word := family ++ nnn

/-- The word with the layout `XNN` or `Xnn` of R81. -/
def wordXnn (family : BitVec 4) (x : Fin 16) (nn : Byte) : Word := family ++ ((BitVec.ofFin x : BitVec 4) ++ nn)

/-- The word with the layout `XYn` or `XYN` of R81. -/
def wordXyn (family : BitVec 4) (x y : Fin 16) (n : BitVec 4) : Word :=
  family ++ ((BitVec.ofFin x : BitVec 4) ++ ((BitVec.ofFin y : BitVec 4) ++ n))

/-- The instruction's word, from the patterns of R90. -/
def encode : Instr → Word
  | .cls => wordNnn 0x0 0x0E0
  | .ret => wordNnn 0x0 0x0EE
  | .jpNnn nnn => wordNnn 0x1 nnn
  | .callNnn nnn => wordNnn 0x2 nnn
  | .seVxNn x nn => wordXnn 0x3 x nn
  | .sneVxNn x nn => wordXnn 0x4 x nn
  | .seVxVy x y => wordXyn 0x5 x y 0x0
  | .ldVxNn x nn => wordXnn 0x6 x nn
  | .addVxNn x nn => wordXnn 0x7 x nn
  | .ldVxVy x y => wordXyn 0x8 x y 0x0
  | .orVxVy x y => wordXyn 0x8 x y 0x1
  | .andVxVy x y => wordXyn 0x8 x y 0x2
  | .xorVxVy x y => wordXyn 0x8 x y 0x3
  | .addVxVy x y => wordXyn 0x8 x y 0x4
  | .subVxVy x y => wordXyn 0x8 x y 0x5
  | .shrVx x y => wordXyn 0x8 x y 0x6
  | .subnVxVy x y => wordXyn 0x8 x y 0x7
  | .shlVx x y => wordXyn 0x8 x y 0xE
  | .sneVxVy x y => wordXyn 0x9 x y 0x0
  | .ldINnn nnn => wordNnn 0xA nnn
  | .jpV0Nnn nnn => wordNnn 0xB nnn
  | .rndVxNn x nn => wordXnn 0xC x nn
  | .drwVxVyN x y n => wordXyn 0xD x y n
  | .skpVx x => wordXnn 0xE x 0x9E
  | .sknpVx x => wordXnn 0xE x 0xA1
  | .ldVxDt x => wordXnn 0xF x 0x07
  | .ldVxK x => wordXnn 0xF x 0x0A
  | .ldDtVx x => wordXnn 0xF x 0x15
  | .ldStVx x => wordXnn 0xF x 0x18
  | .addIVx x => wordXnn 0xF x 0x1E
  | .ldFVx x => wordXnn 0xF x 0x29
  | .ldBVx x => wordXnn 0xF x 0x33
  | .ldMemVx x => wordXnn 0xF x 0x55
  | .ldVxMem x => wordXnn 0xF x 0x65

/-- The instruction's two bytes in memory order, the high byte first (R80, R92). -/
def encodeBytes (i : Instr) : Byte × Byte := (highByte (encode i), lowByte (encode i))

/-- The host's numbering of an opcode-table word: bit 0 is the least significant bit of the one 16-bit word, and bits
from `nbits` up are 0. -/
def tableWord (nbits w : Nat) : Word := BitVec.ofNat 16 (w % 2 ^ nbits)

/-- The instruction the decoder reads from an opcode-table word laid out big-endian in memory (R92); `none` where the
word is unknown. -/
def decodeTableWord (nbits w : Nat) : Option Instr :=
  match decodeBytes (highByte (tableWord nbits w)) (lowByte (tableWord nbits w)) with
  | .instr i => some i
  | .unknown _ => none

end Sys2Proof
end

