-- ==== Sys2Proof/Config.lean ====
section
/-! DEFINITION. The free value of the model: the bytes of the pseudo-random generator, which the spec leaves to the
parameter `PRNG` (00_scope.md R6, 42_alu.md R170). The parameters that have a default (`FONT`, `UNK_RUNS_TIMERS`) and
the seed of `State.reset` stand in Machine/Params.lean. -/

namespace Sys2Proof

/-- FREE VALUE (assumption 2, DESIGN CHOICE). The byte that draw number `draws` (counted from 0) of the generator seeded
with `seed` returns. It has no body: R170, "any byte 0x00 to 0xFF, independently at each CXNN, and a claim must hold for
every draw". -/
opaque Config.prngByte (seed draws : Nat) : Byte

end Sys2Proof
end

