-- ==== Sys2Proof/Machine/Params.lean ====
section
/-! DEFINITION. The parameters of spec 00_scope.md R6 that have a default or that a run supplies: `FONT`,
`UNK_RUNS_TIMERS` and `SEED`. The generator `PRNG` stands in Config.lean. -/

namespace Sys2Proof.Machine

/-- A value of the parameter `FONT`: `FONT_LEN` = 80 bytes, `GLYPH_LEN` = 5 for each glyph, glyph 0 first (R6, R46). -/
abbrev Font := Vector Byte 80

/-- The 80 bytes of R46, glyph by glyph. -/
def Params.fontBytes : List Byte :=
  [0xF0, 0x90, 0x90, 0x90, 0xF0] ++ [0x20, 0x60, 0x20, 0x20, 0x70] ++
  [0xF0, 0x10, 0xF0, 0x80, 0xF0] ++ [0xF0, 0x10, 0xF0, 0x10, 0xF0] ++
  [0x90, 0x90, 0xF0, 0x10, 0x10] ++ [0xF0, 0x80, 0xF0, 0x10, 0xF0] ++
  [0xF0, 0x80, 0xF0, 0x90, 0xF0] ++ [0xF0, 0x10, 0x20, 0x40, 0x40] ++
  [0xF0, 0x90, 0xF0, 0x90, 0xF0] ++ [0xF0, 0x90, 0xF0, 0x10, 0xF0] ++
  [0xF0, 0x90, 0xF0, 0x90, 0x90] ++ [0xE0, 0x90, 0xE0, 0x90, 0xE0] ++
  [0xF0, 0x80, 0x80, 0x80, 0xF0] ++ [0xE0, 0x90, 0x90, 0x90, 0xE0] ++
  [0xF0, 0x80, 0xF0, 0x80, 0xF0] ++ [0xF0, 0x80, 0xF0, 0x80, 0x80]

/-- The default of the parameter `FONT` (R46; assumption 1, PRESUMED, unsafe: the spec takes the bytes from general
knowledge). `State.resetWith` takes every font. -/
def Params.font : Font := Vector.mk Params.fontBytes.toArray rfl

/-- Parameter `UNK_RUNS_TIMERS` at its default, false (R6, R109; assumption 4, DESIGN CHOICE, unsafe).
`unknownOpcodeWith` models both values. -/
def Params.unkRunsTimers : Bool := false

/-- Parameter `SEED` as `State.reset` supplies it (assumption 3, DESIGN CHOICE, unsafe where the seed itself is
named: the generator's bytes are free values for this seed as for any other). `State.resetWith` takes every seed. -/
def Params.seed : Nat := 0

end Sys2Proof.Machine
end

