-- ==== Sys2Proof/Machine/State.lean ====
section
/-! DEFINITION. The machine state (spec 10_state.md R20 to R41) as plain data, the state after reset (R41, R270), and
the reasons a step can stop. Memory is a list of cells in one canonical form: addresses strictly rising, no cell equal to
what an unlisted address reads as (Machine/Ops.lean, `Memory.unlisted`). -/

namespace Sys2Proof.Machine

/-- `FSM_STATE` (R39, R101). The fourth code, 3, is reserved and never produced (assumption 8). -/
inductive FsmState where
  /-- 0, after reset and before the first cycle -/
  | load
  /-- 1, between cycles -/
  | ready
  /-- 2, halted by a fault -/
  | fault
  deriving DecidableEq, Repr

/-- `FAULT_CODE` (R39, R242). The codes 5 to 7 are reserved and never produced (assumption 8). -/
inductive FaultCode where
  /-- 0, no fault -/
  | none
  /-- 1, `pc + 1 > 0xFFF` at fetch -/
  | fetchBounds
  /-- 2, an access's highest address above 0xFFF -/
  | dataBounds
  /-- 3, a push with `SP = 16` -/
  | stackOverflow
  /-- 4, a key index of 16 or more -/
  | keyIndex
  deriving DecidableEq, Repr

/-- `RNG`, the state of the generator `PRNG` (R35, R170), held as the seed and the number of bytes drawn since the
seeding (assumption 2). -/
structure Rng where
  seed : Nat
  draws : Nat
  deriving DecidableEq, Repr

/-- `PRNG.seed(SEED)` (R35). -/
def prngSeed (seed : Nat) : Rng := ⟨seed, 0⟩

/-- `MEM` (R36, R60): the listed cells; an unlisted address holds its reset contents. -/
abbrev Memory := List Host.Cell

/-- The Machine State of R20, with the output strobes of the last cycle (R110). -/
structure State where
  /-- `MEM`, 4096 bytes (R36) -/
  mem : Memory
  /-- V0 to VF (R21) -/
  v : Vector Byte 16
  /-- `I` (R28) -/
  i : Word
  /-- `pc` (R25) -/
  pc : Word
  /-- `STACK[0]` to `STACK[15]` (R29) -/
  stack : Vector Word 16
  /-- `SP`, 0 to 16 (R30, assumption 7) -/
  sp : Fin 17
  /-- `DT`, delay_timer (R31) -/
  dt : Byte
  /-- `ST`, sound_timer (R32) -/
  st : Byte
  /-- `KEYS[0]` to `KEYS[15]`, pressed when not 0 (R33) -/
  keys : Vector Byte 16
  /-- `FB` (R34): bit x of entry y is the cell `x + y*64` (assumption 10) -/
  fb : Vector (BitVec 64) 32
  /-- `RNG` (R35) -/
  rng : Rng
  /-- `FSM_STATE` (R39) -/
  fsm : FsmState
  /-- `FAULT_CODE` (R39) -/
  faultCode : FaultCode
  /-- `FAULT_INFO` (R39) -/
  faultInfo : Word
  /-- `UNK_SEEN` (R39) -/
  unkSeen : Bool
  /-- `LAST_UNKNOWN` (R39) -/
  lastUnknown : Word
  /-- the `beep` strobe of the last cycle (R110, R259; assumption 5) -/
  beep : Bool
  /-- the `unknown_opcode` strobe of the last cycle, with its word when asserted (R110, R260; assumption 5) -/
  unknownStrobe : Option Word
  deriving DecidableEq, Repr

/-- Reasons to stop with a fault. There is none, and so nobody raises one: every fault of this hardware (R242) has an
entry the spec describes (R244), and the model takes it as a next state (`raiseFault`; assumption 6). Safe or unsafe:
neither, since no step ends here. -/
inductive Fault where
  deriving DecidableEq, Repr

/-- Reasons to refuse an instruction. -/
inductive Refusal where
  /-- Raised by an arm of `exec` whose instruction has no meaning yet; no arm does. Safe: the model stops where the
  hardware goes on. -/
  | notModelled (mnemonic : String)
  deriving DecidableEq, Repr

/-- What a step or a meaning answers. -/
abbrev Result := Host.Outcome State Fault Refusal

/-- The machine right after reset (R41, R270), with the parameter `FONT` at its default `Params.font`, which unlisted
addresses read as, and the seed of `Params.seed`. `State.resetWith` (Machine/Ops.lean) takes every font and seed. -/
def State.reset : State where
  mem := []
  v := Vector.replicate 16 0
  i := 0
  pc := 0x200
  stack := Vector.replicate 16 0
  sp := 0
  dt := 0
  st := 0
  keys := Vector.replicate 16 0
  fb := Vector.replicate 32 0
  rng := prngSeed Params.seed
  fsm := .load
  faultCode := .none
  faultInfo := 0
  unkSeen := false
  lastUnknown := 0
  beep := false
  unknownStrobe := none

end Sys2Proof.Machine
end

