-- ==== Sys2Proof/Machine/Ops.lean ====
section
/-! DEFINITION. The named operations over registers, memory, return stack, framebuffer, generator and timers, the
advance and the end of a cycle (spec 40_cycle.md R105 to R108), the fault entry (60_exceptions.md R244), the
unknown-opcode cycle (40_cycle.md R109), and reset with parameters (70_reset_and_hazards.md R270). There is no return
from a fault (R248). -/

namespace Sys2Proof.Machine

/-! ### General registers and `I` -/

/-- VF, the flag register (R24). -/
def flagReg : Fin 16 := 15

/-- `V[x]` (R9, R21). -/
def State.reg (s : State) (x : Fin 16) : Byte := s.v[x]

/-- `V[x] <- b` (R9, R21). -/
def State.setReg (s : State) (x : Fin 16) (b : Byte) : State := { s with v := s.v.set x b }

/-- `I <- w` (R28). -/
def State.setI (s : State) (w : Word) : State := { s with i := w }

/-! ### Memory -/

/-- What an address that memory does not list reads as: its contents after a reset with the default font, the font table at
0x000 to 0x04F and 0 above (R36, R46, R270). A machine with another font lists the bytes that differ. Addresses above 0xFFF do not exist and no caller reads one (R62, R64; assumption 9). -/
def Memory.unlisted (a : Nat) : Byte := if h : a < 80 then Params.font[a] else 0

/-- The byte at an address. -/
def Memory.read (m : Memory) (a : Nat) : Byte := (List.lookup a m).getD (Memory.unlisted a)

/-- List a cell at its place in the rising order, in the stead of the address's old cell. -/
def Memory.insert (a : Nat) (b : Byte) : Memory → Memory
  | [] => [(a, b)]
  | c :: rest =>
    if a < c.1 then (a, b) :: c :: rest
    else if a = c.1 then (a, b) :: rest
    else c :: Memory.insert a b rest

/-- The byte `b` put at address `a`, in canonical form: a byte equal to what an unlisted address reads as is not
listed. -/
def Memory.write (m : Memory) (a : Nat) (b : Byte) : Memory :=
  if b = Memory.unlisted a then m.filter fun c => c.1 ≠ a else Memory.insert a b m

/-- The canonical form: addresses strictly rising, all at most 0xFFF (R60), no cell equal to what its address reads as
when unlisted. -/
abbrev Memory.wf (m : Memory) : Prop :=
  m.Pairwise (fun c d => c.1 < d.1) ∧ ∀ c ∈ m, c.1 ≤ 0xFFF ∧ c.2 ≠ Memory.unlisted c.1

/-- `MemRead(addr, 1)` (R62). The caller checks the range first. -/
def State.memRead (s : State) (a : Nat) : Byte := Memory.read s.mem a

/-- `MemWrite(addr, 1, v)` (R63). The caller checks the range first; an address above 0xFFF does not exist, and nothing
is written there (R64). -/
def State.memWrite (s : State) (a : Nat) (b : Byte) : State :=
  { s with mem := if a ≤ 0xFFF then Memory.write s.mem a b else s.mem }

/-- The bytes of a list stored at rising addresses from `a`, in the order of the list. -/
def State.memWriteBytes (s : State) (a : Nat) : List Byte → State
  | [] => s
  | b :: bs => State.memWriteBytes (s.memWrite a b) (a + 1) bs

/-- `op = {MEM[pc], MEM[pc + 1]}` (R102, R65): the byte at `pc` is the high byte. -/
def State.fetchWord (s : State) : Word := wordOfBytes (s.memRead s.pc.toNat) (s.memRead (s.pc.toNat + 1))

/-! ### Return stack (stack_controller) -/

/-- `STACK[j]`. -/
def State.slot (s : State) (j : Fin 16) : Word := s.stack[j]

/-- The writing part of Push (R125), for `SP < 16`: `STACK[SP] <- w; SP <- SP + 1`. -/
def State.push (s : State) (w : Word) (h : s.sp.val < 16) : State :=
  { s with stack := s.stack.set s.sp.val w h, sp := ⟨s.sp.val + 1, by omega⟩ }

/-- The pop of RET (R121), for `SP > 0`: `SP <- SP - 1`; the slot keeps its value (R29). -/
def State.pop (s : State) : State := { s with sp := ⟨s.sp.val - 1, by omega⟩ }

/-- `STACK[SP - 1]`, the slot a pop reads, for `SP > 0` (R29). -/
def State.topSlot (s : State) (h : 0 < s.sp.val) : Word := s.stack[s.sp.val - 1]'(by omega)

/-! ### Framebuffer (framebuffer_xor_engine) -/

/-- `FB[t]`: the cell of column `t % 64` and row `t / 64` (R34). -/
def State.cell (s : State) (t : Fin 2048) : Bool := (s.fb[t.val / 64]'(by omega)).getLsbD (t.val % 64)

/-- `FB[t] <- FB[t] ^ 1` (R202). -/
def State.flipCell (s : State) (t : Fin 2048) : State :=
  { s with fb := s.fb.set (t.val / 64) (s.fb[t.val / 64]'(by omega) ^^^ BitVec.twoPow 64 (t.val % 64)) (by omega) }

/-- `FB[t] <- 0` for every cell (R201). -/
def State.clearScreen (s : State) : State := { s with fb := Vector.replicate 32 0 }

/-- One set sprite bit whose target is `t` (R202): skipped when `t` is 2048 or more; else the collision is recorded in
VF and the cell is flipped. -/
def State.drawPixel (s : State) (t : Nat) : State :=
  if h : t < 2048 then
    (if s.cell ⟨t, h⟩ then s.setReg flagReg 1 else s).flipCell ⟨t, h⟩
  else s

/-! ### Generator (prng_state_machine) -/

/-- `PRNG.next(RNG)` (R170): a byte, which is a free value, and the generator's next state. -/
def prngNext (r : Rng) : Byte × Rng := (Config.prngByte r.seed r.draws, { r with draws := r.draws + 1 })

/-- `RNG <- RNG'` (R170). -/
def State.setRng (s : State) (r : Rng) : State := { s with rng := r }

/-! ### Timers (timer_decrement) -/

/-- `DT <- b` (R225). -/
def State.setDt (s : State) (b : Byte) : State := { s with dt := b }

/-- `ST <- b` (R226). -/
def State.setSt (s : State) (b : Byte) : State := { s with st := b }

/-- A timer after one timer step: down by 1, floor 0 (R31, R32). -/
def countDown (b : Byte) : Byte := if 0 < b.toNat then b - 1 else b

/-- `TimerStep()` (R108), `beep` signalled when `ST` was above 0. -/
def State.timerStep (s : State) : State :=
  { s with dt := countDown s.dt, st := countDown s.st, beep := if 0 < s.st.toNat then true else s.beep }

/-! ### Keys -/

/-- Key k is pressed when `KEYS[k] != 0` (R33, R220). -/
def State.keyPressed (s : State) (k : Fin 16) : Bool := s.keys[k] ≠ 0

/-! ### The end of an executed cycle -/

/-- The outcome of an instruction rule (R105), but for a fault. -/
inductive Advance where
  /-- the common advance by 2 -/
  | next
  /-- by 4 when the condition holds, else by 2 -/
  | skip (c : Bool)
  /-- `pc` becomes the target -/
  | jump (target : Nat)
  /-- `pc` unchanged, and the timer step does not run -/
  | wait
  deriving DecidableEq, Repr

/-- The table of R106: the new `pc` from the address of the executed instruction; every value is reduced mod 65536. -/
def Advance.newPc (a : Advance) (pc : Word) : Word :=
  match a with
  | .next => pc + 2
  | .skip c => pc + (if c then 4 else 2)
  | .jump target => BitVec.ofNat 16 target
  | .wait => pc

/-- `pc <- w`. -/
def State.setPc (s : State) (w : Word) : State := { s with pc := w }

/-- `FSM_STATE <- f`. -/
def State.setFsm (s : State) (f : FsmState) : State := { s with fsm := f }

/-- What the cycle does after the instruction's own effect (R107): the advance, the timer step unless the outcome is
`wait`, and `FSM_STATE <- READY`. -/
def State.finish (s : State) (a : Advance) : State :=
  let s1 := s.setPc (a.newPc s.pc)
  (if a = .wait then s1 else s1.timerStep).setFsm .ready

/-- An instruction that completes with the outcome `a` from the state `s` its own effect has left. -/
def endCycle (a : Advance) (s : State) : Result := .next (s.finish a)

/-! ### Faults and the unknown word -/

/-- Fault entry (R244): the three status registers are written and nothing else changes; `FAULT_INFO` holds 16 bits. -/
def State.raiseFault (s : State) (code : FaultCode) (info : Nat) : State :=
  { s with fsm := .fault, faultCode := code, faultInfo := BitVec.ofNat 16 info }

/-- A cycle that raises `Fault(code, info)` (R9, R244): the block's next state is the faulted one. -/
def faultCycle (code : FaultCode) (info : Nat) (s : State) : Result := .next (s.raiseFault code info)

/-- `UNK_SEEN <- 1; LAST_UNKNOWN <- op; signal unknown_opcode(op)` (R109). -/
def State.markUnknown (s : State) (op : Word) : State :=
  { s with unkSeen := true, lastUnknown := op, unknownStrobe := some op }

/-- The unknown-opcode cycle (R107, R109) for either value of the parameter `UNK_RUNS_TIMERS`. -/
def unknownOpcodeWith (runsTimers : Bool) (op : Word) (s : State) : State :=
  (if runsTimers then (s.markUnknown op).timerStep else s.markUnknown op).setFsm .ready

/-- The unknown-opcode cycle with this machine's `UNK_RUNS_TIMERS`. -/
def unknownOpcode (op : Word) (s : State) : Result := .next (unknownOpcodeWith Params.unkRunsTimers op s)

/-- "output strobes for this cycle start deasserted" (R107). -/
def State.deassertStrobes (s : State) : State := { s with beep := false, unknownStrobe := none }

/-! ### Reset -/

/-- The state reset leaves with the parameter `FONT` = `font` and `SEED` = `seed` (R6, R41, R270, R271): the font copied to
0x000 on, the generator seeded, all else as in `State.reset`. -/
def State.resetWith (font : Font) (seed : Nat) : State :=
  (State.reset.memWriteBytes 0 font.toList).setRng (prngSeed seed)

end Sys2Proof.Machine
end

