-- ==== Sys2Proof/Machine/Cycle.lean ====
section
/-! DEFINITION. One cycle around the instruction's meaning (spec 40_cycle.md R101 to R109): the faulted block, the fetch
and its bounds, the decoder, the unknown word. Step.lean calls `cycleWith` with `exec`. -/

namespace Sys2Proof.Machine

/-- R107: `ex` is the instruction's execution with the advance, the timer step and `FSM_STATE <- READY` (`endCycle`). -/
def cycleWith (ex : Instr → State → Result) (s : State) : Result :=
  if s.fsm = .fault then .next s.deassertStrobes
  else if 0xFFF < s.pc.toNat + 1 then faultCycle .fetchBounds (max s.pc.toNat 0x1000) s.deassertStrobes
  else
    match decode s.fetchWord with
    | .instr i => ex i s.deassertStrobes
    | .unknown op => unknownOpcode op s.deassertStrobes

/-- A state in which the next cycle fetches: a faulted block is made ready and a `pc` past 0xFFE goes to 0x200, because
no cycle fetches otherwise (R101, R103); every other state is left as it is (assumption 12). -/
def State.readyToFetch (s : State) : State :=
  { s with fsm := if s.fsm = .fault then .ready else s.fsm, pc := if 0xFFF < s.pc.toNat + 1 then 0x200 else s.pc }

/-- The word `w` stored big-endian where the next cycle fetches (R65, R92), in place of a program load (R272). -/
def State.placeWord (s : State) (w : Word) : State :=
  s.readyToFetch.memWriteBytes s.readyToFetch.pc.toNat [highByte w, lowByte w]

end Sys2Proof.Machine
end

