-- ==== Sys2Proof/Machine/Flags.lean ====
section
/-! DEFINITION. The flag values an instruction writes into VF (spec 10_state.md R24, 42_alu.md R157 to R161). A Boolean
written into a register is 1 for true and 0 for false (R8). The collision flag of DXYN stands in `State.drawPixel`. -/

namespace Sys2Proof.Machine

/-- `(c ? 1 : 0)` as a register value (R8). -/
def flagByte (c : Bool) : Byte := if c then 1 else 0

/-- 8XY4: carry, `sum > 255` for the 9-bit sum (R157). -/
def carryFlag (a b : Byte) : Byte := flagByte (decide (255 < a.toNat + b.toNat))

/-- 8XY5 and 8XY7: 1 when `a > b` strictly (R158, R160). -/
def greaterFlag (a b : Byte) : Byte := flagByte (decide (b.toNat < a.toNat))

/-- 8XY6: bit 0, the bit shifted out (R159). -/
def lowBitFlag (a : Byte) : Byte := flagByte (a.getLsbD 0)

/-- 8XYE: bit 7, the bit shifted out (R161). -/
def highBitFlag (a : Byte) : Byte := flagByte (a.getLsbD 7)

end Sys2Proof.Machine
end

