-- ==== Sys2Proof/Machine/Operands.lean ====
section
/-! DEFINITION. The operand forms (spec 30_encoding.md R83, 43_index_memory.md R180, 45_timers_keys.md R220, 44_display.md
R203): register-indirect access through `I` with its bounds check, the key index taken from a register, the key scan, the
register list V0 to VX, the decimal digits, the font address and the sprite. -/

namespace Sys2Proof.Machine

/-- An access of `count` bytes from `I` (R180): when its highest address exceeds 0xFFF the instruction raises
`DATA_BOUNDS` with `max(I, 0x1000)` and nothing is accessed; an access of no byte is never out of range (R202). -/
def withDataRange (count : Nat) (s : State) (body : Result) : Result :=
  if 0 < count ∧ 0xFFF < s.i.toNat + count - 1 then faultCycle .dataBounds (max s.i.toNat 0x1000) s else body

/-- The key index `V[x]` (R220): 16 or more raises `KEY_INDEX` with `V[x]`. -/
def withKeyIndex (x : Fin 16) (s : State) (body : Fin 16 → Result) : Result :=
  if h : (s.reg x).toNat < 16 then body ⟨(s.reg x).toNat, h⟩ else faultCycle .keyIndex (s.reg x).toNat s

/-- The first pressed key, scanning 0 to 15 in order (R224). -/
def State.firstPressed (s : State) : Option (Fin 16) := (List.finRange 16).find? fun k => s.keyPressed k

/-- V0 to VX in order (R185). -/
def State.regsUpTo (s : State) (x : Fin 16) : List Byte := s.v.toList.take (x.val + 1)

/-- `V[k] <- MemRead(I + k, 1)` for k from 0 to X (R186). -/
def State.loadRegs (s : State) (x : Fin 16) : State :=
  { s with v := Vector.ofFn fun k => if k ≤ x then s.memRead (s.i.toNat + k.val) else s.reg k }

/-- The hundreds, tens and ones digit of a byte (R184). -/
def decimalDigits (b : Byte) : List Byte :=
  [BitVec.ofNat 8 (b.toNat / 100), BitVec.ofNat 8 (b.toNat / 10 % 10), BitVec.ofNat 8 (b.toNat % 10)]

/-- The address of the glyph of a digit: 5 bytes per glyph from 0x000 (R46, R183). -/
def glyphAddress (digit : Byte) : Word := BitVec.ofNat 16 (digit.toNat * 5)

/-- One sprite row (R202, R203): bit 7 of the byte is column 0, at column `x0` of the linear row `y`; the target is
`(x0 + col) + y * 64`. -/
def State.drawRow (s : State) (x0 y : Nat) (b : Byte) : State :=
  (List.range 8).foldl (fun u col => if b.getLsbD (7 - col) then u.drawPixel (x0 + col + y * 64) else u) s

/-- The sprite of `n` rows at `I`, its first byte the row 0 (R202, R203). -/
def State.drawSprite (s : State) (x0 y0 n : Nat) : State :=
  (List.range n).foldl (fun u row => u.drawRow x0 (y0 + row) (u.memRead (u.i.toNat + row))) s

end Sys2Proof.Machine
end

