-- ==== Sys2Proof/Machine/Alu.lean ====
section
/-! DEFINITION. Registers and arithmetic (spec 42_alu.md): 6XNN, 7XNN, 8XY0 to 8XY7, 8XYE, CXNN. Statements take effect in
the order written (R10, R150; assumption 16): in 8XY5, 8XY6, 8XY7 and 8XYE the result is computed from the registers as
the flag write left them. -/

namespace Sys2Proof.Machine

/-- 6XNN LD VX, NN (R151). -/
def execLdVxNn (x : Fin 16) (nn : Byte) (s : State) : Result := endCycle .next (s.setReg x nn)

/-- 7XNN ADD VX, NN (R152): mod 256, no flag. -/
def execAddVxNn (x : Fin 16) (nn : Byte) (s : State) : Result := endCycle .next (s.setReg x (s.reg x + nn))

/-- 8XY0 LD VX, VY (R153). -/
def execLdVxVy (x y : Fin 16) (s : State) : Result := endCycle .next (s.setReg x (s.reg y))

/-- 8XY1 OR VX, VY (R154). -/
def execOrVxVy (x y : Fin 16) (s : State) : Result := endCycle .next (s.setReg x (s.reg x ||| s.reg y))

/-- 8XY2 AND VX, VY (R155). -/
def execAndVxVy (x y : Fin 16) (s : State) : Result := endCycle .next (s.setReg x (s.reg x &&& s.reg y))

/-- 8XY3 XOR VX, VY (R156). -/
def execXorVxVy (x y : Fin 16) (s : State) : Result := endCycle .next (s.setReg x (s.reg x ^^^ s.reg y))

/-- 8XY4 ADD VX, VY (R157): the sum is formed before the flag is written. -/
def execAddVxVy (x y : Fin 16) (s : State) : Result :=
  endCycle .next ((s.setReg flagReg (carryFlag (s.reg x) (s.reg y))).setReg x (s.reg x + s.reg y))

/-- 8XY5 SUB VX, VY (R158): the flag, then the difference of the registers as they then stand. -/
def execSubVxVy (x y : Fin 16) (s : State) : Result :=
  let f := s.setReg flagReg (greaterFlag (s.reg x) (s.reg y))
  endCycle .next (f.setReg x (f.reg x - f.reg y))

/-- 8XY6 SHR VX (R159): Y is ignored. -/
def execShrVx (x _y : Fin 16) (s : State) : Result :=
  let f := s.setReg flagReg (lowBitFlag (s.reg x))
  endCycle .next (f.setReg x (f.reg x >>> 1))

/-- 8XY7 SUBN VX, VY (R160): the flag, then the reverse difference of the registers as they then stand. -/
def execSubnVxVy (x y : Fin 16) (s : State) : Result :=
  let f := s.setReg flagReg (greaterFlag (s.reg y) (s.reg x))
  endCycle .next (f.setReg x (f.reg y - f.reg x))

/-- 8XYE SHL VX (R161): Y is ignored. -/
def execShlVx (x _y : Fin 16) (s : State) : Result :=
  let f := s.setReg flagReg (highBitFlag (s.reg x))
  endCycle .next (f.setReg x (f.reg x <<< 1))

/-- CXNN RND VX, NN (R165, R170): the byte is a free value, and the generator advances once. -/
def execRndVxNn (x : Fin 16) (nn : Byte) (s : State) : Result :=
  endCycle .next ((s.setRng (prngNext s.rng).2).setReg x (nn &&& (prngNext s.rng).1))

end Sys2Proof.Machine
end

