-- ==== Sys2Proof/Machine/Control.lean ====
section
/-! DEFINITION. Control flow (spec 41_control_flow.md): 00EE, 1NNN, 2NNN, 3XNN, 4XNN, 5XY0, 9XY0, BNNN. -/

namespace Sys2Proof.Machine

/-- 00EE RET (R121): with `SP > 0` pop and resume at the popped address plus 2; with `SP = 0` only advance. -/
def execRet (s : State) : Result :=
  if h : 0 < s.sp.val then endCycle (.jump ((s.topSlot h).toNat + 2)) s.pop else endCycle .next s

/-- 1NNN JP NNN (R122). -/
def execJpNnn (nnn : BitVec 12) (s : State) : Result := endCycle (.jump nnn.toNat) s

/-- 2NNN CALL NNN (R123, R125): push this instruction's own address, or raise `STACK_OVERFLOW` with 16 when the stack
is full. -/
def execCallNnn (nnn : BitVec 12) (s : State) : Result :=
  if h : s.sp.val < 16 then endCycle (.jump nnn.toNat) (s.push s.pc h) else faultCycle .stackOverflow 16 s

/-- 3XNN SE VX, NN (R126). -/
def execSeVxNn (x : Fin 16) (nn : Byte) (s : State) : Result := endCycle (.skip (s.reg x = nn)) s

/-- 4XNN SNE VX, NN (R127). -/
def execSneVxNn (x : Fin 16) (nn : Byte) (s : State) : Result := endCycle (.skip (s.reg x ≠ nn)) s

/-- 5XY0 SE VX, VY (R128). -/
def execSeVxVy (x y : Fin 16) (s : State) : Result := endCycle (.skip (s.reg x = s.reg y)) s

/-- 9XY0 SNE VX, VY (R129). -/
def execSneVxVy (x y : Fin 16) (s : State) : Result := endCycle (.skip (s.reg x ≠ s.reg y)) s

/-- BNNN JP V0, NNN (R130): the exact sum. -/
def execJpV0Nnn (nnn : BitVec 12) (s : State) : Result := endCycle (.jump (nnn.toNat + (s.reg 0).toNat)) s

end Sys2Proof.Machine
end

