-- ==== Sys2Proof/Machine/Display.lean ====
section
/-! DEFINITION. Display (spec 44_display.md): 00E0, DXYN. -/

namespace Sys2Proof.Machine

/-- 00E0 CLS (R201). -/
def execCls (s : State) : Result := endCycle .next s.clearScreen

/-- DXYN DRW VX, VY, N (R202): both coordinates are read before VF is cleared, and the bounds are checked before that
too. -/
def execDrwVxVyN (x y : Fin 16) (n : BitVec 4) (s : State) : Result :=
  withDataRange n.toNat s
    (endCycle .next ((s.setReg flagReg 0).drawSprite (s.reg x).toNat (s.reg y).toNat n.toNat))

end Sys2Proof.Machine
end

