-- ==== Sys2Proof/Machine/Index.lean ====
section
/-! DEFINITION. Index register and memory (spec 43_index_memory.md): ANNN, FX1E, FX29, FX33, FX55, FX65. No access
changes `I` (R180). -/

namespace Sys2Proof.Machine

/-- ANNN LD I, NNN (R181). -/
def execLdINnn (nnn : BitVec 12) (s : State) : Result := endCycle .next (s.setI (nnn.setWidth 16))

/-- FX1E ADD I, VX (R182): mod 65536, no flag. -/
def execAddIVx (x : Fin 16) (s : State) : Result := endCycle .next (s.setI (s.i + (s.reg x).setWidth 16))

/-- FX29 LD F, VX (R183): a value of 16 or more leaves `I` as it was. -/
def execLdFVx (x : Fin 16) (s : State) : Result :=
  endCycle .next (if (s.reg x).toNat < 16 then s.setI (glyphAddress (s.reg x)) else s)

/-- FX33 LD B, VX (R184). -/
def execLdBVx (x : Fin 16) (s : State) : Result :=
  withDataRange 3 s (endCycle .next (s.memWriteBytes s.i.toNat (decimalDigits (s.reg x))))

/-- FX55 LD [I], VX (R185). -/
def execLdMemVx (x : Fin 16) (s : State) : Result :=
  withDataRange (x.val + 1) s (endCycle .next (s.memWriteBytes s.i.toNat (s.regsUpTo x)))

/-- FX65 LD VX, [I] (R186). -/
def execLdVxMem (x : Fin 16) (s : State) : Result :=
  withDataRange (x.val + 1) s (endCycle .next (s.loadRegs x))

end Sys2Proof.Machine
end

