-- ==== Sys2Proof/Machine/TimersKeys.lean ====
section
/-! DEFINITION. Timers and keys (spec 45_timers_keys.md): EX9E, EXA1, FX07, FX0A, FX15, FX18. -/

namespace Sys2Proof.Machine

/-- EX9E SKP VX (R221). -/
def execSkpVx (x : Fin 16) (s : State) : Result := withKeyIndex x s fun k => endCycle (.skip (s.keyPressed k)) s

/-- EXA1 SKNP VX (R222). -/
def execSknpVx (x : Fin 16) (s : State) : Result := withKeyIndex x s fun k => endCycle (.skip (!s.keyPressed k)) s

/-- FX07 LD VX, DT (R223): `DT` before this cycle's timer step. -/
def execLdVxDt (x : Fin 16) (s : State) : Result := endCycle .next (s.setReg x s.dt)

/-- FX0A LD VX, K (R224): the lowest pressed key, or wait with `pc` and the timers unchanged. -/
def execLdVxK (x : Fin 16) (s : State) : Result :=
  match s.firstPressed with
  | some k => endCycle .next (s.setReg x (BitVec.ofNat 8 k.val))
  | none => endCycle .wait s

/-- FX15 LD DT, VX (R225): the timer step of the same cycle counts the new value down. -/
def execLdDtVx (x : Fin 16) (s : State) : Result := endCycle .next (s.setDt (s.reg x))

/-- FX18 LD ST, VX (R226): the timer step of the same cycle counts the new value down and beeps when it is above 0. -/
def execLdStVx (x : Fin 16) (s : State) : Result := endCycle .next (s.setSt (s.reg x))

end Sys2Proof.Machine
end

