-- ==== Sys2Proof/Machine/Step.lean ====
section
/-! DEFINITION. The step: one cycle request (spec 40_cycle.md R100, R107; 60_exceptions.md R262). -/

namespace Sys2Proof.Machine

/-- One cycle. -/
def step (s : State) : Host.Outcome State Fault Refusal := Sys2Proof.Machine.cycleWith Sys2Proof.Machine.exec s

/-- The state with the opcode-table word `w` of `nbits` bits stored where the next step fetches; every instruction has
one word, and its bits from `nbits` up are 0. -/
def State.withFetchWord (s : State) (nbits w : Nat) : State := s.placeWord (tableWord nbits w)

end Sys2Proof.Machine
end

