-- ==== Sys2Proof/Machine/HostPort.lean ====
section
/-! DEFINITION. What the host may do to the block between cycles (spec 60_exceptions.md R256 to R262): reset with a seed,
load writes, key events, cycle requests; and what it reads: the framebuffer and the status registers. -/

namespace Sys2Proof.Machine

/-- Reset with `SEED`, from any state, of a machine whose parameter `FONT` is `font` (R6, R270, R271). -/
def hostReset (font : Font) (seed : Nat) (_s : State) : State := State.resetWith font seed

/-- The load port (R257): a write in `LOAD` at 0x200 to 0xFFF takes effect; every other one is ignored. -/
def loadWrite (a : Nat) (b : Byte) (s : State) : State :=
  if s.fsm = .load ∧ 0x200 ≤ a ∧ a ≤ 0xFFF then s.memWrite a b else s

/-- The bytes of an image written through the load port from address `a` on, one after the other (R272). -/
def loadImageFrom (a : Nat) (s : State) : List Byte → State
  | [] => s
  | b :: bs => loadImageFrom (a + 1) (loadWrite a b s) bs

/-- The program loader (R243, R272): the image copied from 0x200 on. -/
def loadImage (image : List Byte) (s : State) : State := loadImageFrom 0x200 s image

/-- `KEYS[k] <- b`. -/
def State.setKey (s : State) (k : Fin 16) (b : Byte) : State := { s with keys := s.keys.set k b }

/-- A key event (R258): a press sets `KEYS[k]` to 1, a release to 0. -/
def keyEvent (k : Fin 16) (pressed : Bool) (s : State) : State := s.setKey k (if pressed then 1 else 0)

/-- The framebuffer read (R261): the 2048 cells in the order of t. -/
def readFramebuffer (s : State) : List Bool := (List.finRange 2048).map s.cell

/-- The 2-bit code of `FSM_STATE` (R39). -/
def fsmBits : FsmState → BitVec 2
  | .load => 0
  | .ready => 1
  | .fault => 2

/-- The 3-bit code of `FAULT_CODE` (R39). -/
def faultCodeBits : FaultCode → BitVec 3
  | .none => 0
  | .fetchBounds => 1
  | .dataBounds => 2
  | .stackOverflow => 3
  | .keyIndex => 4

/-- The status registers as the host reads them (R39, R262). -/
structure StatusRegisters where
  fsmState : BitVec 2
  faultCode : BitVec 3
  faultInfo : BitVec 16
  unkSeen : BitVec 1
  lastUnknown : BitVec 16
  deriving DecidableEq, Repr

/-- The status read (R262). -/
def statusRead (s : State) : StatusRegisters :=
  ⟨fsmBits s.fsm, faultCodeBits s.faultCode, s.faultInfo, BitVec.ofBool s.unkSeen, s.lastUnknown⟩

/-- One interaction of R256 that can change the block's state. -/
inductive HostAction where
  | reset (seed : Nat)
  | load (a : Nat) (b : Byte)
  | key (k : Fin 16) (pressed : Bool)
  | cycle
  deriving DecidableEq, Repr

/-- The answer to an interaction (R256) of a block whose parameter `FONT` is `font` (R6). -/
def hostAct (font : Font) (act : HostAction) (s : State) : Result :=
  match act with
  | .reset seed => .next (hostReset font seed s)
  | .load a b => .next (loadWrite a b s)
  | .key k pressed => .next (keyEvent k pressed s)
  | .cycle => step s

end Sys2Proof.Machine
end

