-- ==== Sys2Proof/Safety.lean ====
section
/-! DEFINITION. The terms in which claims speak: a safe run, the invariant, what an instruction leaves unchanged, and the
kinds of run the spec's laws are about (R124, R227, R241, R244). -/

namespace Sys2Proof

open Machine

/-- A block that still runs its program: the premise the spec asks every claim about a program to take,
`FSM_STATE != FAULT` (R244) and `UNK_SEEN = 0` (R241). -/
def Running (s : State) : Prop := s.fsm ≠ .fault ∧ s.unkSeen = false

/-- The status registers tell the truth about the halt (R39, R242, R244): the code, the info and the state it was raised
in, which the halted block still holds. -/
def FaultRecord (s : State) : Prop :=
  match s.faultCode with
  | .none => s.fsm ≠ .fault ∧ s.faultInfo = 0
  | .fetchBounds => s.fsm = .fault ∧ 0xFFF ≤ s.pc.toNat ∧ s.faultInfo.toNat = max s.pc.toNat 0x1000
  | .dataBounds => s.fsm = .fault ∧ 0xFF0 < s.i.toNat ∧ s.faultInfo.toNat = max s.i.toNat 0x1000
  | .stackOverflow => s.fsm = .fault ∧ s.sp = 16 ∧ s.faultInfo.toNat = 16
  | .keyIndex => s.fsm = .fault ∧ 16 ≤ s.faultInfo.toNat ∧ s.faultInfo.toNat ≤ 255

/-- The invariant of the block between cycles. -/
structure StateInv (s : State) : Prop where
  /-- memory is in canonical form, and no cell lies past 0xFFF (R60) -/
  memory : Memory.wf s.mem
  /-- the bound of R27 on `pc`: BNNN reaches at most 0x10FE, and no write to `pc` wraps -/
  pc : s.pc.toNat ≤ 0x10FE
  /-- a pushed address is one a fetch started at, at most 0xFFE (R103, R121) -/
  stack : ∀ j, (s.slot j).toNat ≤ 0xFFE
  /-- the host writes only 0 or 1 (R33, R258) -/
  keys : ∀ k : Fin 16, s.keys[k] = 0 ∨ s.keys[k] = 1
  /-- the fault registers and the halt agree -/
  fault : FaultRecord s
  /-- `LAST_UNKNOWN` is 0 until an unknown word is met (R39, R241) -/
  unknown : s.unkSeen = false → s.lastUnknown = 0
  /-- an asserted `unknown_opcode` strobe carries the recorded word (R109, R260) -/
  strobe : ∀ op, s.unknownStrobe = some op → s.unkSeen = true ∧ s.lastUnknown = op
  /-- a halted block asserts no strobe (R101, R110) -/
  quiet : s.fsm = .fault → s.beep = false ∧ s.unknownStrobe = none

/-- A piece of state an instruction may leave unchanged. `pc`, `DT`, `ST`, `FSM_STATE` and the beep strobe, which the end
of every executed cycle may write, are stated apart (`CycleEnds`). -/
inductive Part where
  | reg (x : Fin 16)
  | index
  | mem (a : Nat)
  | stack (j : Fin 16)
  | sp
  | screen (c : Fin 2048)
  | keys
  | rng
  /-- FAULT_CODE, FAULT_INFO, UNK_SEEN, LAST_UNKNOWN and the unknown_opcode strobe -/
  | status
  deriving DecidableEq, Repr

/-- The piece of state is the same in both states. -/
def Kept (s t : State) : Part → Prop
  | .reg x => t.reg x = s.reg x
  | .index => t.i = s.i
  | .mem a => t.memRead a = s.memRead a
  | .stack j => t.slot j = s.slot j
  | .sp => t.sp = s.sp
  | .screen c => t.cell c = s.cell c
  | .keys => t.keys = s.keys
  | .rng => t.rng = s.rng
  | .status => t.faultCode = s.faultCode ∧ t.faultInfo = s.faultInfo ∧ t.unkSeen = s.unkSeen ∧
      t.lastUnknown = s.lastUnknown ∧ t.unknownStrobe = s.unknownStrobe

/-- Everything outside `changed` is the same in both states (R112: "an instruction writes nothing beyond what its
pseudocode writes"). -/
def KeptBut (changed : Part → Prop) (s t : State) : Prop := ∀ p, ¬ changed p → Kept s t p

/-- The end of an executed cycle (R107): `pc` as given mod 65536, `FSM_STATE = READY`, and the timer step from the timer
values `dt` and `st` (R108): each down by 1 with floor 0, and beep when `st` was above 0. -/
def CycleEndsFrom (dt st : Nat) (s t : State) (pc : Nat) : Prop :=
  t.pc.toNat = pc % 65536 ∧ t.fsm = .ready ∧ t.dt.toNat = dt - 1 ∧ t.st.toNat = st - 1 ∧
    t.beep = (s.beep || decide (0 < st))

/-- The end of a cycle whose instruction writes no timer. -/
def CycleEnds (s t : State) (pc : Nat) : Prop := CycleEndsFrom s.dt.toNat s.st.toNat s t pc

/-- The state after the fault entry of R244: three status registers written, all else as in `s`. -/
def Faulted (s : State) (code : FaultCode) (info : Nat) : State :=
  { s with fsm := .fault, faultCode := code, faultInfo := BitVec.ofNat 16 info }

/-- The sprite DXYN draws from `s` with coordinates `x0`, `y0` and `n` rows has a set bit whose target is `t` (R202,
R203). -/
def SpriteCovers (s : State) (x0 y0 n t : Nat) : Prop :=
  ∃ row col, row < n ∧ col < 8 ∧ (s.memRead (s.i.toNat + row)).getLsbD (7 - col) = true ∧
    t = x0 + col + (y0 + row) * 64

/-- What makes the cycle from `s` fault, as R242 lists it: the code and FAULT_INFO, or nothing. -/
def faultCause (s : State) : Option (FaultCode × Nat) :=
  if 0xFFF < s.pc.toNat + 1 then some (.fetchBounds, max s.pc.toNat 0x1000)
  else
    let data (count : Nat) : Option (FaultCode × Nat) :=
      if 0xFFF < s.i.toNat + count - 1 then some (.dataBounds, max s.i.toNat 0x1000) else none
    let key (x : Fin 16) : Option (FaultCode × Nat) :=
      if 16 ≤ (s.reg x).toNat then some (.keyIndex, (s.reg x).toNat) else none
    match decode s.fetchWord with
    | .instr (.callNnn _) => if s.sp = 16 then some (.stackOverflow, 16) else none
    | .instr (.drwVxVyN _ _ n) => if n = 0 then none else data n.toNat
    | .instr (.ldBVx _) => data 3
    | .instr (.ldMemVx x) => data (x.val + 1)
    | .instr (.ldVxMem x) => data (x.val + 1)
    | .instr (.skpVx x) => key x
    | .instr (.sknpVx x) => key x
    | _ => none

/-- The cycle from `s` fetches and executes the instruction `i`, does not fault, and leaves `t`. -/
def Executes (i : Instr) (s t : State) : Prop :=
  s.fsm ≠ .fault ∧ s.pc.toNat < 0xFFF ∧ decode s.fetchWord = .instr i ∧ step s = .next t ∧ t.fsm ≠ .fault

/-- The instruction is CALL or RET. -/
def Instr.callsOrReturns : Instr → Bool
  | .callNnn _ => true
  | .ret => true
  | _ => false

/-- A run of executed instructions in which every CALL is matched by a later RET and every RET by an earlier CALL
(R124). -/
inductive BalancedRun : State → State → Prop
  | done (s : State) : BalancedRun s s
  | plain {s t u : State} {i : Instr} :
      Executes i s t → i.callsOrReturns = false → BalancedRun t u → BalancedRun s u
  | nested {s t u v w : State} {nnn : BitVec 12} :
      Executes (.callNnn nnn) s t → BalancedRun t u → Executes .ret u v → BalancedRun v w → BalancedRun s w

/-- The instruction, executed in `s`, waits for a key (R224). -/
def Waits (i : Instr) (s : State) : Prop := (∃ x, i = .ldVxK x) ∧ ∀ k, s.keyPressed k = false

/-- The value of ST that the timer step of the cycle executing `i` in `s` finds: FX18 has just written it (R226), every
other instruction leaves it (R32). -/
def soundAtTimerStep (i : Instr) (s : State) : Nat :=
  match i with
  | .ldStVx x => (s.reg x).toNat
  | _ => s.st.toNat

/-- The registers an instruction writes, as the column "writes" of R22 lists them. -/
def Instr.writesReg (i : Instr) (j : Fin 16) : Prop :=
  match i with
  | .ldVxNn x _ | .addVxNn x _ => j = x
  | .ldVxVy x _ | .orVxVy x _ | .andVxVy x _ | .xorVxVy x _ => j = x
  | .addVxVy x _ | .subVxVy x _ | .subnVxVy x _ => j = 15 ∨ j = x
  | .shrVx x _ | .shlVx x _ => j = 15 ∨ j = x
  | .rndVxNn x _ => j = x
  | .drwVxVyN _ _ _ => j = 15
  | .ldVxDt x | .ldVxK x => j = x
  | .ldVxMem x => j ≤ x
  | .cls | .ret | .jpNnn _ | .callNnn _ | .seVxNn _ _ | .sneVxNn _ _ | .seVxVy _ _ | .sneVxVy _ _ | .ldINnn _
  | .jpV0Nnn _ | .skpVx _ | .sknpVx _ | .ldDtVx _ | .ldStVx _ | .addIVx _ | .ldFVx _ | .ldBVx _ | .ldMemVx _ => False

/-- A run of `k` executed instructions, each of which runs the timer step and satisfies `ok` (R227). -/
inductive TickingRun (ok : Instr → Prop) : Nat → State → State → Prop
  | done (s : State) : TickingRun ok 0 s s
  | tick {s t u : State} {i : Instr} {k : Nat} :
      Executes i s t → ok i → ¬ Waits i s → TickingRun ok k t u → TickingRun ok (k + 1) s u

end Sys2Proof
end

