-- ==== Sys2Proof/Certificates/Slice0/Obligations.lean ====
section
/-! DEFINITION. The statements for the provers, by the numbered rules of the spec: reset and the host, the cycle and its
faults, encoding, then one statement for each group of instructions, then the whole-machine laws. -/

open Sys2Proof Sys2Proof.Machine

/-! ### Reset and the host -/

/-- R270: reset, from any state, with any seed and any value of the parameter `FONT`. -/
def Obligations.ResetLeavesStatedValues : Prop :=
  ∀ (font : Font) (seed : Nat) (s : State),
    let t := hostReset font seed s
    (∀ a ≤ 0xFFF, t.memRead a = if h : a < 80 then font[a] else 0) ∧
    (∀ x, t.reg x = 0) ∧ t.i = 0 ∧ (∀ j, t.slot j = 0) ∧ t.sp = 0 ∧ t.dt = 0 ∧ t.st = 0 ∧
    (∀ k, t.keyPressed k = false) ∧ t.keys = Vector.replicate 16 0 ∧ (∀ c, t.cell c = false) ∧ t.pc.toNat = 0x200 ∧
    t.rng = prngSeed seed ∧ t.faultCode = .none ∧ t.faultInfo = 0 ∧ t.unkSeen = false ∧ t.lastUnknown = 0 ∧
    t.fsm = .load

/-- The state reset leaves meets the invariant, whatever the font and the seed, and so does the state the host's runs
start from, which is the one of this machine's font and seed (assumptions 1 and 3). -/
def Obligations.ResetStateMeetsInvariant : Prop :=
  StateInv State.reset ∧ State.reset = State.resetWith Params.font Params.seed ∧
  ∀ font seed, StateInv (State.resetWith font seed)

/-- Every cycle keeps the invariant, from every state that meets it. R27: no reachable `pc` wraps. -/
def Obligations.StepKeepsInvariant : Prop := ∀ s t, StateInv s → step s = .next t → StateInv t

/-- With any value of the parameter `FONT`, every interaction of R256 is answered with a next state and keeps the invariant. -/
def Obligations.HostActionsKeepInvariant : Prop :=
  ∀ (font : Font) (act : HostAction) (s : State), StateInv s → ∃ t, hostAct font act s = .next t ∧ StateInv t

/-- R248, which the spec derives from R244 and R101, with what R101, R257 and R258 say of a halted block: in FAULT a
cycle changes nothing and asserts no strobe (assumption 5 holds the strobes), a load write is ignored, a key event only
sets its key, and reset leaves the state reset leaves. -/
def Obligations.OnlyResetLeavesFault : Prop :=
  ∀ (font : Font) (s : State), s.fsm = .fault →
    hostAct font .cycle s = .next { s with beep := false, unknownStrobe := none } ∧
    (∀ a b, hostAct font (.load a b) s = .next s) ∧
    (∀ k b, ∃ t, hostAct font (.key k b) s = .next t ∧ t.fsm = .fault ∧ t = { s with keys := t.keys }) ∧
    (∀ seed, ∃ t, hostAct font (.reset seed) s = .next t ∧ t.fsm = .load ∧ t = State.resetWith font seed)

/-- R257: the load port takes a byte at 0x200 to 0xFFF in LOAD, and ignores every other write; no cycle leaves the
block in LOAD. -/
def Obligations.LoadPortWritesOnlyInLoad : Prop :=
  ∀ (a : Nat) (b : Byte) (s : State),
    (s.fsm = .load → 0x200 ≤ a → a ≤ 0xFFF → ∀ c, (loadWrite a b s).memRead c = if c = a then b else s.memRead c) ∧
    (s.fsm = .load → 0x200 ≤ a → a ≤ 0xFFF → loadWrite a b s = { s with mem := (loadWrite a b s).mem }) ∧
    (s.fsm ≠ .load ∨ a < 0x200 ∨ 0xFFF < a → loadWrite a b s = s) ∧
    (∀ t, step s = .next t → t.fsm ≠ .load)

/-- R272: byte j of an image of at most 3584 bytes stands at 0x200 + j after the load; everything else is as it was.
-/
def Obligations.ImageStandsAtProgramStart : Prop :=
  ∀ (image : List Byte) (s : State), s.fsm = .load → image.length ≤ 3584 →
    (∀ j (h : j < image.length), (loadImage image s).memRead (0x200 + j) = image[j]) ∧
    (∀ a, a < 0x200 ∨ 0x200 + image.length ≤ a → (loadImage image s).memRead a = s.memRead a) ∧
    loadImage image s = { s with mem := (loadImage image s).mem }

/-- R258: a press sets the key's entry to 1 and a release to 0; nothing else changes. -/
def Obligations.KeyEventSetsOneKey : Prop :=
  ∀ (k : Fin 16) (pressed : Bool) (s : State),
    (∀ j : Fin 16, (keyEvent k pressed s).keys[j] = if j = k then (if pressed then 1 else 0) else s.keys[j]) ∧
    keyEvent k pressed s = { s with keys := (keyEvent k pressed s).keys }

/-! ### The cycle -/

/-- R102, R104, R107: a cycle that fetches the word of an instruction is the execution of that instruction, from the
state with both strobes deasserted; the word is the byte at `pc`, then the byte at `pc + 1`. -/
def Obligations.StepRunsDecodedInstruction : Prop :=
  ∀ (s : State) (i : Instr), s.fsm ≠ .fault → s.pc.toNat + 1 ≤ 0xFFF →
    decode (wordOfBytes (s.memRead s.pc.toNat) (s.memRead (s.pc.toNat + 1))) = .instr i →
    step s = exec i { s with beep := false, unknownStrobe := none }

/-- The model's own rule (assumption 12): the step after `withFetchWord` runs the instruction of the placed word. -/
def Obligations.StepRunsPlacedWord : Prop :=
  ∀ (s : State) (w : Nat) (i : Instr), decodeTableWord 16 w = some i →
    step (s.withFetchWord 16 w) = exec i { s.withFetchWord 16 w with beep := false, unknownStrobe := none }

/-- R103: a fetch at `pc >= 0xFFF` faults, and nothing else happens in the cycle. -/
def Obligations.FetchPastMemoryFaults : Prop :=
  ∀ s : State, s.fsm ≠ .fault → 0xFFF ≤ s.pc.toNat →
    step s = .next (Faulted { s with beep := false, unknownStrobe := none } .fetchBounds (max s.pc.toNat 0x1000))

/-- R109, R241, for either value of the parameter `UNK_RUNS_TIMERS`: the unknown-opcode cycle records the word,
asserts its strobe and leaves the rest, but for the timer step where the parameter asks for it. -/
def Obligations.UnknownWordIsRecorded : Prop :=
  ∀ (s : State) (op : Word),
    let start : State := { s with beep := false, unknownStrobe := none }
    let told : State := { s with fsm := .ready, unkSeen := true, lastUnknown := op, beep := false,
                                 unknownStrobe := some op }
    (s.fsm ≠ .fault → s.pc.toNat + 1 ≤ 0xFFF → decode s.fetchWord = .unknown op →
      s.fetchWord = op ∧ step s = .next (unknownOpcodeWith Params.unkRunsTimers op start)) ∧
    unknownOpcodeWith false op start = told ∧
    unknownOpcodeWith true op start = { told with dt := countDown s.dt, st := countDown s.st,
                                                  beep := decide (0 < s.st.toNat) } ∧
    (∀ b : Byte, (countDown b).toNat = b.toNat - 1)

/-- R109, R279: with `UNK_RUNS_TIMERS` false (assumption 4) the block makes no further progress after an unknown word:
any number of later cycles leaves it in the state of the first. -/
def Obligations.UnknownWordLivelocks : Prop :=
  ∀ (s t : State) (op : Word) (k : Nat), s.fsm ≠ .fault → s.pc.toNat + 1 ≤ 0xFFF → decode s.fetchWord = .unknown op →
    step s = .next t → core.run k t = .next t

/-- R244: faults are precise. A cycle that faults writes three status registers and nothing else, and asserts no
strobe. -/
def Obligations.FaultsArePrecise : Prop :=
  ∀ s t : State, s.fsm ≠ .fault → step s = .next t → t.fsm = .fault →
    t = { s with fsm := .fault, faultCode := t.faultCode, faultInfo := t.faultInfo, beep := false, unknownStrobe := none }

/-- R242: every cycle of a block that is not halted is answered with a next state, and it faults exactly when the list
of R242 says so, with the code and the FAULT_INFO given there. -/
def Obligations.CyclesFaultExactlyAsListed : Prop :=
  ∀ s : State, s.fsm ≠ .fault → ∃ t, step s = .next t ∧
    match faultCause s with
    | some (code, info) => t.fsm = .fault ∧ t.faultCode = code ∧ t.faultInfo.toNat = info
    | none => t.fsm = .ready ∧ t.faultCode = s.faultCode ∧ t.faultInfo = s.faultInfo

/-- R259, R110, with the default `UNK_RUNS_TIMERS` (assumption 4): the beep strobe of a cycle is asserted exactly when
it executed an instruction that neither faulted nor waited, and its timer step found ST above 0 (the value FX18 has
just written, where it is FX18). -/
def Obligations.BeepExactlyWhenSoundTimerCounts : Prop :=
  ∀ s t : State, step s = .next t →
    (t.beep = true ↔ ∃ i, Executes i s t ∧ ¬ Waits i s ∧ 0 < soundAtTimerStep i s)

/-! ### Encoding -/

/-- Decoding the word of an instruction gives it back, with every operand at every value (R82, R90). -/
def Obligations.DecodeOfEncode : Prop := ∀ i : Instr, decode (encode i) = .instr i

/-- A word that decodes to an instruction is that instruction's word: no bit is dropped (R82, R84). -/
def Obligations.EncodeOfDecode : Prop := ∀ (op : Word) (i : Instr), decode op = .instr i → encode i = op

/-- R84, R85: the decoder follows the first matching row of the opcode map, and gives UNKNOWN(op) where none matches;
no word is matched by two rows. -/
def Obligations.DecoderFollowsOpcodeMap : Prop :=
  (∀ op : Word,
    match opcodeTable.find? fun r => r.selects op with
    | some r => ∃ i, decode op = .instr i ∧ i.mnemonic = r.mnemonic
    | none => decode op = .unknown op) ∧
  opcodeTable.Pairwise fun r r' => ∀ op, ¬ (r.selects op = true ∧ r'.selects op = true)

/-- R86, which the spec derives from R84 and R90: the unknown words, by top nibble. -/
def Obligations.UnknownWordsAreExactlyListed : Prop :=
  ∀ op : Word,
    let family := op.toNat / 4096
    let low := op.toNat % 16
    let nn := op.toNat % 256
    (decode op = .unknown op ↔
      (family = 0x0 ∧ op.toNat ≠ 0x00E0 ∧ op.toNat ≠ 0x00EE) ∨
      (family = 0x5 ∧ low ≠ 0) ∨
      (family = 0x8 ∧ low ∈ [0x8, 0x9, 0xA, 0xB, 0xC, 0xD, 0xF]) ∨
      (family = 0x9 ∧ low ≠ 0) ∨
      (family = 0xE ∧ nn ∉ [0x9E, 0xA1]) ∨
      (family = 0xF ∧ nn ∉ [0x07, 0x0A, 0x15, 0x18, 0x1E, 0x29, 0x33, 0x55, 0x65]))

/-- A sanity statement: words written out from the patterns of R90 decode to the instructions they stand for, at least
one for each top nibble, each format of R81 and each family of instructions, the source's own example words among them
(R92); and a word that misses a fixed nibble is unknown. -/
def Obligations.SampleWordsDecode : Prop :=
  decodeBytes 0x00 0xE0 = .instr .cls ∧ decodeBytes 0x00 0xEE = .instr .ret ∧
  decodeBytes 0x12 0x28 = .instr (.jpNnn 0x228) ∧ decodeBytes 0x22 0x0A = .instr (.callNnn 0x20A) ∧
  decodeBytes 0x33 0x10 = .instr (.seVxNn 3 0x10) ∧ decodeBytes 0x43 0x11 = .instr (.sneVxNn 3 0x11) ∧
  decodeBytes 0x51 0x20 = .instr (.seVxVy 1 2) ∧ decodeBytes 0x60 0x05 = .instr (.ldVxNn 0 0x05) ∧
  decodeBytes 0x61 0x03 = .instr (.ldVxNn 1 0x03) ∧ decodeBytes 0x72 0x20 = .instr (.addVxNn 2 0x20) ∧
  decodeBytes 0x80 0x14 = .instr (.addVxVy 0 1) ∧ decodeBytes 0x91 0x20 = .instr (.sneVxVy 1 2) ∧
  decodeBytes 0xA3 0x00 = .instr (.ldINnn 0x300) ∧ decodeBytes 0xB5 0xF0 = .instr (.jpV0Nnn 0x5F0) ∧
  decodeBytes 0xC3 0x0F = .instr (.rndVxNn 3 0x0F) ∧ decodeBytes 0xDA 0xB5 = .instr (.drwVxVyN 10 11 5) ∧
  decodeBytes 0xE5 0x9E = .instr (.skpVx 5) ∧ decodeBytes 0xF4 0x07 = .instr (.ldVxDt 4) ∧
  decodeBytes 0xF2 0x65 = .instr (.ldVxMem 2) ∧ decodeBytes 0x51 0x21 = .unknown 0x5121

/-! ### Control flow -/

/-- R121: RET pops and resumes at the popped address plus 2; at SP = 0 it only advances. -/
def Obligations.RetPopsAndResumesAfterCall : Prop :=
  (∀ (s : State) (j : Fin 16), s.sp.val = j.val + 1 → ∃ t, exec .ret s = .next t ∧
    t.sp.val = j.val ∧ KeptBut (fun p => p = .sp) s t ∧ CycleEnds s t ((s.slot j).toNat + 2)) ∧
  (∀ s : State, s.sp = 0 → ∃ t, exec .ret s = .next t ∧
    KeptBut (fun _ => False) s t ∧ CycleEnds s t (s.pc.toNat + 2))

/-- R122: JP goes to its target. -/
def Obligations.JumpGoesToTarget : Prop :=
  ∀ (nnn : BitVec 12) (s : State), ∃ t, exec (.jpNnn nnn) s = .next t ∧
    KeptBut (fun _ => False) s t ∧ CycleEnds s t nnn.toNat

/-- R123, R125: CALL pushes its own address and jumps; with a full stack it faults and pushes nothing. -/
def Obligations.CallPushesItsAddress : Prop :=
  (∀ (nnn : BitVec 12) (s : State) (j : Fin 16), s.sp.val = j.val → ∃ t, exec (.callNnn nnn) s = .next t ∧
    t.sp.val = j.val + 1 ∧ t.slot j = s.pc ∧ KeptBut (fun p => p = .sp ∨ p = .stack j) s t ∧
    CycleEnds s t nnn.toNat) ∧
  (∀ (nnn : BitVec 12) (s : State), s.sp = 16 → exec (.callNnn nnn) s = .next (Faulted s .stackOverflow 16))

/-- R126, R127: the skips on an immediate. -/
def Obligations.SkipsCompareImmediate : Prop :=
  ∀ (x : Fin 16) (nn : Byte) (s : State),
    (∃ t, exec (.seVxNn x nn) s = .next t ∧ KeptBut (fun _ => False) s t ∧
      CycleEnds s t (s.pc.toNat + if s.reg x = nn then 4 else 2)) ∧
    (∃ t, exec (.sneVxNn x nn) s = .next t ∧ KeptBut (fun _ => False) s t ∧
      CycleEnds s t (s.pc.toNat + if s.reg x = nn then 2 else 4))

/-- R128, R129: the skips on two registers; a word of these families with a low nibble other than 0 is unknown. -/
def Obligations.SkipsCompareRegisters : Prop :=
  ∀ (x y : Fin 16) (s : State),
    (∃ t, exec (.seVxVy x y) s = .next t ∧ KeptBut (fun _ => False) s t ∧
      CycleEnds s t (s.pc.toNat + if s.reg x = s.reg y then 4 else 2)) ∧
    (∃ t, exec (.sneVxVy x y) s = .next t ∧ KeptBut (fun _ => False) s t ∧
      CycleEnds s t (s.pc.toNat + if s.reg x = s.reg y then 2 else 4)) ∧
    (∀ op : Word, op.toNat / 4096 = 0x5 ∨ op.toNat / 4096 = 0x9 → op.toNat % 16 ≠ 0 → decode op = .unknown op)

/-- R130: BNNN jumps to the exact sum of NNN and V0, at most 0x10FE. -/
def Obligations.OffsetJumpAddsV0 : Prop :=
  ∀ (nnn : BitVec 12) (s : State), ∃ t, exec (.jpV0Nnn nnn) s = .next t ∧
    t.pc.toNat = nnn.toNat + (s.reg 0).toNat ∧ t.pc.toNat ≤ 0x10FE ∧
    KeptBut (fun _ => False) s t ∧ CycleEnds s t (nnn.toNat + (s.reg 0).toNat)

/-- R124, which the spec derives from R121, R123 and R125: a CALL, a subroutine in which calls and returns are
matched, and its RET resume at the word after the CALL with SP as it was. -/
def Obligations.CallAndReturnPairUp : Prop :=
  ∀ (s t u v : State) (nnn : BitVec 12), Executes (.callNnn nnn) s t → BalancedRun t u → Executes .ret u v →
    v.pc.toNat = s.pc.toNat + 2 ∧ v.sp = s.sp

/-! ### Registers and arithmetic -/

/-- R151: 6XNN loads NN. -/
def Obligations.LoadImmediateSetsRegister : Prop :=
  ∀ (x : Fin 16) (nn : Byte) (s : State), ∃ t, exec (.ldVxNn x nn) s = .next t ∧
    t.reg x = nn ∧ KeptBut (fun p => p = .reg x) s t ∧ CycleEnds s t (s.pc.toNat + 2)

/-- R152: 7XNN adds mod 256 and writes no flag. -/
def Obligations.AddImmediateWraps : Prop :=
  ∀ (x : Fin 16) (nn : Byte) (s : State), ∃ t, exec (.addVxNn x nn) s = .next t ∧
    (t.reg x).toNat = ((s.reg x).toNat + nn.toNat) % 256 ∧
    KeptBut (fun p => p = .reg x) s t ∧ CycleEnds s t (s.pc.toNat + 2)

/-- R153: 8XY0 copies VY. -/
def Obligations.MoveCopiesRegister : Prop :=
  ∀ (x y : Fin 16) (s : State), ∃ t, exec (.ldVxVy x y) s = .next t ∧
    t.reg x = s.reg y ∧ KeptBut (fun p => p = .reg x) s t ∧ CycleEnds s t (s.pc.toNat + 2)

/-- R154, R155, R156: the logic operations, bit by bit; VF is written only as VX. -/
def Obligations.LogicOperationsWorkBitwise : Prop :=
  ∀ (x y : Fin 16) (s : State),
    (∃ t, exec (.orVxVy x y) s = .next t ∧
      (∀ b < 8, (t.reg x).getLsbD b = ((s.reg x).getLsbD b || (s.reg y).getLsbD b)) ∧
      KeptBut (fun p => p = .reg x) s t ∧ CycleEnds s t (s.pc.toNat + 2)) ∧
    (∃ t, exec (.andVxVy x y) s = .next t ∧
      (∀ b < 8, (t.reg x).getLsbD b = ((s.reg x).getLsbD b && (s.reg y).getLsbD b)) ∧
      KeptBut (fun p => p = .reg x) s t ∧ CycleEnds s t (s.pc.toNat + 2)) ∧
    (∃ t, exec (.xorVxVy x y) s = .next t ∧
      (∀ b < 8, (t.reg x).getLsbD b = ((s.reg x).getLsbD b ^^ (s.reg y).getLsbD b)) ∧
      KeptBut (fun p => p = .reg x) s t ∧ CycleEnds s t (s.pc.toNat + 2))

/-- R157: 8XY4 writes the sum mod 256 of the old operands into VX, and the carry into VF unless X = F. -/
def Obligations.AddRegistersSetsCarry : Prop :=
  ∀ (x y : Fin 16) (s : State), ∃ t, exec (.addVxVy x y) s = .next t ∧
    (t.reg x).toNat = ((s.reg x).toNat + (s.reg y).toNat) % 256 ∧
    (x ≠ 15 → (t.reg 15).toNat = if 255 < (s.reg x).toNat + (s.reg y).toNat then 1 else 0) ∧
    KeptBut (fun p => p = .reg x ∨ p = .reg 15) s t ∧ CycleEnds s t (s.pc.toNat + 2)

/-- R158, R10: 8XY5. `f` is 1 when VX > VY strictly and 0 otherwise; it is written to VF, and the difference is then
taken with any operand that is VF read as `f`. -/
def Obligations.SubtractSetsGreaterFlag : Prop :=
  ∀ (x y : Fin 16) (s : State), ∃ t, exec (.subVxVy x y) s = .next t ∧
    (let f := if (s.reg y).toNat < (s.reg x).toNat then 1 else 0
     let a := if x = 15 then f else (s.reg x).toNat
     let b := if y = 15 then f else (s.reg y).toNat
     (t.reg x).toNat = (256 + a - b) % 256 ∧ (x ≠ 15 → (t.reg 15).toNat = f)) ∧
    KeptBut (fun p => p = .reg x ∨ p = .reg 15) s t ∧ CycleEnds s t (s.pc.toNat + 2)

/-- R159: 8XY6 shifts VX right by one and puts the bit shifted out into VF; with X = F the result is 0. Y is ignored.
-/
def Obligations.ShiftRightKeepsLowBitInFlag : Prop :=
  ∀ (x y : Fin 16) (s : State), ∃ t, exec (.shrVx x y) s = .next t ∧
    (x ≠ 15 → (t.reg x).toNat = (s.reg x).toNat / 2 ∧ (t.reg 15).toNat = (s.reg x).toNat % 2) ∧
    (x = 15 → (t.reg 15).toNat = 0) ∧
    KeptBut (fun p => p = .reg x ∨ p = .reg 15) s t ∧ CycleEnds s t (s.pc.toNat + 2)

/-- R160, R10: 8XY7. `f` is 1 when VY > VX strictly and 0 otherwise; it is written to VF, and the difference is then
taken with any operand that is VF read as `f`. -/
def Obligations.ReverseSubtractSetsGreaterFlag : Prop :=
  ∀ (x y : Fin 16) (s : State), ∃ t, exec (.subnVxVy x y) s = .next t ∧
    (let f := if (s.reg x).toNat < (s.reg y).toNat then 1 else 0
     let a := if x = 15 then f else (s.reg x).toNat
     let b := if y = 15 then f else (s.reg y).toNat
     (t.reg x).toNat = (256 + b - a) % 256 ∧ (x ≠ 15 → (t.reg 15).toNat = f)) ∧
    KeptBut (fun p => p = .reg x ∨ p = .reg 15) s t ∧ CycleEnds s t (s.pc.toNat + 2)

/-- R161: 8XYE shifts VX left by one mod 256 and puts bit 7 into VF; with X = F the result is 2 when bit 7 was set and
0 otherwise. Y is ignored. -/
def Obligations.ShiftLeftKeepsHighBitInFlag : Prop :=
  ∀ (x y : Fin 16) (s : State), ∃ t, exec (.shlVx x y) s = .next t ∧
    (x ≠ 15 → (t.reg x).toNat = (s.reg x).toNat * 2 % 256 ∧ (t.reg 15).toNat = (s.reg x).toNat / 128) ∧
    (x = 15 → (t.reg 15).toNat = (s.reg 15).toNat / 128 * 2) ∧
    KeptBut (fun p => p = .reg x ∨ p = .reg 15) s t ∧ CycleEnds s t (s.pc.toNat + 2)

/-- R165: CXNN writes NN and-ed with the generator's next byte and advances the generator once, NN = 0 included. The
generator is the parameter `PRNG`; its byte is a free value of which nothing is assumed (assumption 2). -/
def Obligations.RandomByteIsMaskedAndDrawn : Prop :=
  ∀ (x : Fin 16) (nn : Byte) (s : State), ∃ t, exec (.rndVxNn x nn) s = .next t ∧
    t.reg x = nn &&& (prngNext s.rng).1 ∧ (nn = 0 → t.reg x = 0) ∧ t.rng = (prngNext s.rng).2 ∧
    KeptBut (fun p => p = .reg x ∨ p = .rng) s t ∧ CycleEnds s t (s.pc.toNat + 2)

/-! ### Index register and memory -/

/-- R181: ANNN loads I. -/
def Obligations.LoadIndexSetsI : Prop :=
  ∀ (nnn : BitVec 12) (s : State), ∃ t, exec (.ldINnn nnn) s = .next t ∧
    t.i.toNat = nnn.toNat ∧ KeptBut (fun p => p = .index) s t ∧ CycleEnds s t (s.pc.toNat + 2)

/-- R182: FX1E adds mod 65536 and writes no flag. -/
def Obligations.AddToIndexWraps : Prop :=
  ∀ (x : Fin 16) (s : State), ∃ t, exec (.addIVx x) s = .next t ∧
    t.i.toNat = (s.i.toNat + (s.reg x).toNat) % 65536 ∧
    KeptBut (fun p => p = .index) s t ∧ CycleEnds s t (s.pc.toNat + 2)

/-- R183: FX29 points I at the glyph of VX when VX < 16, and leaves I otherwise. -/
def Obligations.GlyphAddressIsFiveTimesDigit : Prop :=
  ∀ (x : Fin 16) (s : State), ∃ t, exec (.ldFVx x) s = .next t ∧
    t.i.toNat = (if (s.reg x).toNat < 16 then (s.reg x).toNat * 5 else s.i.toNat) ∧
    KeptBut (fun p => p = .index) s t ∧ CycleEnds s t (s.pc.toNat + 2)

/-- R184: FX33 stores the three decimal digits at I, I + 1, I + 2, or faults and stores nothing. -/
def Obligations.DecimalDigitsAreStored : Prop :=
  ∀ (x : Fin 16) (s : State),
    (s.i.toNat + 2 ≤ 0xFFF → ∃ t, exec (.ldBVx x) s = .next t ∧
      (t.memRead s.i.toNat).toNat = (s.reg x).toNat / 100 ∧
      (t.memRead (s.i.toNat + 1)).toNat = (s.reg x).toNat / 10 % 10 ∧
      (t.memRead (s.i.toNat + 2)).toNat = (s.reg x).toNat % 10 ∧
      KeptBut (fun p => ∃ k < 3, p = .mem (s.i.toNat + k)) s t ∧ CycleEnds s t (s.pc.toNat + 2)) ∧
    (0xFFF < s.i.toNat + 2 → exec (.ldBVx x) s = .next (Faulted s .dataBounds (max s.i.toNat 0x1000)))

/-- R185: FX55 stores V0 to VX at I to I + X, or faults and stores nothing. -/
def Obligations.RegistersAreStored : Prop :=
  ∀ (x : Fin 16) (s : State),
    (s.i.toNat + x.val ≤ 0xFFF → ∃ t, exec (.ldMemVx x) s = .next t ∧
      (∀ k ≤ x, t.memRead (s.i.toNat + k.val) = s.reg k) ∧
      KeptBut (fun p => ∃ k ≤ x.val, p = .mem (s.i.toNat + k)) s t ∧ CycleEnds s t (s.pc.toNat + 2)) ∧
    (0xFFF < s.i.toNat + x.val → exec (.ldMemVx x) s = .next (Faulted s .dataBounds (max s.i.toNat 0x1000)))

/-- R186: FX65 loads V0 to VX from I to I + X, or faults and loads nothing. -/
def Obligations.RegistersAreLoaded : Prop :=
  ∀ (x : Fin 16) (s : State),
    (s.i.toNat + x.val ≤ 0xFFF → ∃ t, exec (.ldVxMem x) s = .next t ∧
      (∀ k ≤ x, t.reg k = s.memRead (s.i.toNat + k.val)) ∧
      KeptBut (fun p => ∃ k ≤ x, p = .reg k) s t ∧ CycleEnds s t (s.pc.toNat + 2)) ∧
    (0xFFF < s.i.toNat + x.val → exec (.ldVxMem x) s = .next (Faulted s .dataBounds (max s.i.toNat 0x1000)))

/-- R187, which the spec derives from R180, R185 and R186: a store of V0 to VX and a later load of the same registers
from the same I, with no write to those bytes between them, leaves in V0 to VX the values that were stored, whatever
happened to the registers in between. -/
def Obligations.StoreThenLoadRestoresRegisters : Prop :=
  ∀ (x : Fin 16) (s t u : State), s.i.toNat + x.val ≤ 0xFFF → exec (.ldMemVx x) s = .next t → u.i = s.i →
    (∀ k ≤ x.val, u.memRead (s.i.toNat + k) = t.memRead (s.i.toNat + k)) →
    ∃ v, exec (.ldVxMem x) u = .next v ∧ ∀ k ≤ x, v.reg k = s.reg k

/-- R75, R65: the bytes FX55 stores are what a later fetch there sees, the lower-addressed one as the high byte. -/
def Obligations.StoredBytesAreFetched : Prop :=
  ∀ (x k : Fin 16) (s t u : State), s.i.toNat + x.val ≤ 0xFFF → k.val + 1 ≤ x.val →
    exec (.ldMemVx x) s = .next t → u.mem = t.mem → u.pc.toNat = s.i.toNat + k.val →
    u.fetchWord.toNat = (s.reg k).toNat * 256 + (s.reg (k + 1)).toNat

/-! ### Display -/

/-- R201: CLS clears every cell and changes no register. -/
def Obligations.ClearScreenClearsEveryCell : Prop :=
  ∀ s : State, ∃ t, exec .cls s = .next t ∧ (∀ c, t.cell c = false) ∧
    KeptBut (fun p => ∃ c, p = .screen c) s t ∧ CycleEnds s t (s.pc.toNat + 2)

/-- R202, in the form R204 gives it: when its rows lie in memory DXYN flips exactly the cells a set sprite bit
targets, and leaves in VF 1 when one of them was set, else 0. When they do not, it faults and VF and the screen are as
they were. Sprite width and bit order are R203's (assumption 15). -/
def Obligations.DrawFlipsSpriteCells : Prop :=
  ∀ (x y : Fin 16) (n : BitVec 4) (s : State),
    let covers := SpriteCovers s (s.reg x).toNat (s.reg y).toNat n.toNat
    (n.toNat = 0 ∨ s.i.toNat + n.toNat - 1 ≤ 0xFFF → ∃ t, exec (.drwVxVyN x y n) s = .next t ∧
      (∀ c : Fin 2048, (covers c.val → t.cell c = !s.cell c) ∧ (¬ covers c.val → t.cell c = s.cell c)) ∧
      ((∃ c : Fin 2048, covers c.val ∧ s.cell c = true) → t.reg 15 = 1) ∧
      ((∀ c : Fin 2048, covers c.val → s.cell c = false) → t.reg 15 = 0) ∧
      KeptBut (fun p => p = .reg 15 ∨ ∃ c, p = .screen c) s t ∧ CycleEnds s t (s.pc.toNat + 2)) ∧
    (0 < n.toNat → 0xFFF < s.i.toNat + n.toNat - 1 →
      exec (.drwVxVyN x y n) s = .next (Faulted s .dataBounds (max s.i.toNat 0x1000)))

/-- R205, first sentence, and what the rules R202 and R204 give for the flag of the second draw: it is 1 exactly when
the sprite has a set bit whose on-screen target was clear before the first draw (assumption 20). `u` is any state with
the screen the first draw left and the same coordinates, I and sprite bytes. -/
def Obligations.DrawingTwiceRestoresScreen : Prop :=
  ∀ (x y : Fin 16) (n : BitVec 4) (s t u : State),
    (n.toNat = 0 ∨ s.i.toNat + n.toNat - 1 ≤ 0xFFF) → exec (.drwVxVyN x y n) s = .next t →
    (∀ c, u.cell c = t.cell c) → u.reg x = s.reg x → u.reg y = s.reg y → u.i = s.i →
    (∀ k < n.toNat, u.memRead (s.i.toNat + k) = s.memRead (s.i.toNat + k)) →
    ∃ v, exec (.drwVxVyN x y n) u = .next v ∧ (∀ c, v.cell c = s.cell c) ∧
      (v.reg 15 = 1 ↔ ∃ c : Fin 2048, SpriteCovers s (s.reg x).toNat (s.reg y).toNat n.toNat c.val ∧ s.cell c = false)

/-! ### Timers and keys -/

/-- R220, R221, R222: the skips on a key, and their fault for a key index of 16 or more. -/
def Obligations.SkipsTestKey : Prop :=
  (∀ (x k : Fin 16) (s : State), (s.reg x).toNat = k.val →
    (∃ t, exec (.skpVx x) s = .next t ∧ KeptBut (fun _ => False) s t ∧
      CycleEnds s t (s.pc.toNat + if s.keys[k] = 0 then 2 else 4)) ∧
    (∃ t, exec (.sknpVx x) s = .next t ∧ KeptBut (fun _ => False) s t ∧
      CycleEnds s t (s.pc.toNat + if s.keys[k] = 0 then 4 else 2))) ∧
  (∀ (x : Fin 16) (s : State), 16 ≤ (s.reg x).toNat →
    exec (.skpVx x) s = .next (Faulted s .keyIndex (s.reg x).toNat) ∧
    exec (.sknpVx x) s = .next (Faulted s .keyIndex (s.reg x).toNat))

/-- R223: FX07 reads DT as it was before this cycle's timer step. -/
def Obligations.ReadDelayTimerBeforeItCounts : Prop :=
  ∀ (x : Fin 16) (s : State), ∃ t, exec (.ldVxDt x) s = .next t ∧
    t.reg x = s.dt ∧ KeptBut (fun p => p = .reg x) s t ∧ CycleEnds s t (s.pc.toNat + 2)

/-- R224: FX0A completes on the lowest pressed key, and with no key pressed waits with pc and both timers unchanged
and no beep. -/
def Obligations.WaitForKeyTakesLowestKey : Prop :=
  (∀ (x k : Fin 16) (s : State), s.keys[k] ≠ 0 → (∀ j < k, s.keys[j] = 0) → ∃ t, exec (.ldVxK x) s = .next t ∧
    (t.reg x).toNat = k.val ∧ KeptBut (fun p => p = .reg x) s t ∧ CycleEnds s t (s.pc.toNat + 2)) ∧
  (∀ (x : Fin 16) (s : State), (∀ j : Fin 16, s.keys[j] = 0) → ∃ t, exec (.ldVxK x) s = .next t ∧
    KeptBut (fun _ => False) s t ∧ t.pc = s.pc ∧ t.dt = s.dt ∧ t.st = s.st ∧ t.beep = s.beep ∧ t.fsm = .ready)

/-- R225, with what the spec derives there from R107 and R108: FX15 sets DT, and the timer step of the same cycle counts
it down once. -/
def Obligations.SetDelayTimerCountsInItsCycle : Prop :=
  ∀ (x : Fin 16) (s : State), ∃ t, exec (.ldDtVx x) s = .next t ∧
    KeptBut (fun _ => False) s t ∧ CycleEndsFrom (s.reg x).toNat s.st.toNat s t (s.pc.toNat + 2)

/-- R226, with what the spec derives there from R108: FX18 sets ST, and the timer step of the same cycle counts it down
once and beeps when it is above 0. -/
def Obligations.SetSoundTimerCountsInItsCycle : Prop :=
  ∀ (x : Fin 16) (s : State), ∃ t, exec (.ldStVx x) s = .next t ∧
    KeptBut (fun _ => False) s t ∧ CycleEndsFrom s.dt.toNat (s.reg x).toNat s t (s.pc.toNat + 2)

/-- R227, which the spec derives from R223, R225 and R108: a timer set to v and counted by the setting cycle and k
more reads v - (k + 1), floor 0. -/
def Obligations.TimersCountDownByCycles : Prop :=
  (∀ (x y : Fin 16) (k : Nat) (s s' t u : State), Executes (.ldDtVx x) s s' →
    TickingRun (fun i => ∀ z, i ≠ .ldDtVx z) k s' t → Executes (.ldVxDt y) t u →
    (u.reg y).toNat = (s.reg x).toNat - (k + 1)) ∧
  (∀ (x : Fin 16) (k : Nat) (s s' t : State), Executes (.ldStVx x) s s' →
    TickingRun (fun i => ∀ z, i ≠ .ldStVx z) k s' t → t.st.toNat = (s.reg x).toNat - (k + 1))

/-! ### Which instructions write what -/

/-- R22, which the spec derives from the instructions' rules: the only registers an instruction writes are those its
row of the table of R22 names. -/
def Obligations.RegisterWritersAreListed : Prop :=
  ∀ (i : Instr) (s t : State) (j : Fin 16), exec i s = .next t → ¬ i.writesReg j → t.reg j = s.reg j

/-- R28 to R35, R67: each of the other pieces of state is written by no instruction but the ones named for it. -/
def Obligations.StateWritersAreListed : Prop :=
  ∀ (i : Instr) (s t : State), exec i s = .next t →
    (t.i ≠ s.i → (∃ nnn, i = .ldINnn nnn) ∨ (∃ x, i = .addIVx x) ∨ ∃ x, i = .ldFVx x) ∧
    (∀ j, t.slot j ≠ s.slot j → ∃ nnn, i = .callNnn nnn) ∧
    (t.sp ≠ s.sp → (∃ nnn, i = .callNnn nnn) ∨ i = .ret) ∧
    (t.dt.toNat ≠ s.dt.toNat → t.dt.toNat ≠ s.dt.toNat - 1 → ∃ x, i = .ldDtVx x) ∧
    (t.st.toNat ≠ s.st.toNat → t.st.toNat ≠ s.st.toNat - 1 → ∃ x, i = .ldStVx x) ∧
    t.keys = s.keys ∧
    (∀ c, t.cell c ≠ s.cell c → i = .cls ∨ ∃ x y n, i = .drwVxVyN x y n) ∧
    (t.rng ≠ s.rng → ∃ x nn, i = .rndVxNn x nn) ∧
    (∀ a, t.memRead a ≠ s.memRead a → (∃ x, i = .ldBVx x) ∨ ∃ x, i = .ldMemVx x) ∧
    t.unkSeen = s.unkSeen ∧ t.lastUnknown = s.lastUnknown
end

