-- ==== Sys2Proof/Laws/State.lean ====
section
/-! SUPPORT. Beside State: for every named update of the state, what each field is afterwards, true by unfolding, so that
no later proof unfolds a record update. -/

namespace Sys2Proof.Machine

variable (s : State)

/-! `setReg` writes V and nothing else. -/

@[simp] theorem State.setReg_mem (x : Fin 16) (b : Byte) : (s.setReg x b).mem = s.mem := rfl
@[simp] theorem State.setReg_v (x : Fin 16) (b : Byte) : (s.setReg x b).v = s.v.set x b := rfl
@[simp] theorem State.setReg_i (x : Fin 16) (b : Byte) : (s.setReg x b).i = s.i := rfl
@[simp] theorem State.setReg_pc (x : Fin 16) (b : Byte) : (s.setReg x b).pc = s.pc := rfl
@[simp] theorem State.setReg_stack (x : Fin 16) (b : Byte) : (s.setReg x b).stack = s.stack := rfl
@[simp] theorem State.setReg_sp (x : Fin 16) (b : Byte) : (s.setReg x b).sp = s.sp := rfl
@[simp] theorem State.setReg_dt (x : Fin 16) (b : Byte) : (s.setReg x b).dt = s.dt := rfl
@[simp] theorem State.setReg_st (x : Fin 16) (b : Byte) : (s.setReg x b).st = s.st := rfl
@[simp] theorem State.setReg_keys (x : Fin 16) (b : Byte) : (s.setReg x b).keys = s.keys := rfl
@[simp] theorem State.setReg_fb (x : Fin 16) (b : Byte) : (s.setReg x b).fb = s.fb := rfl
@[simp] theorem State.setReg_rng (x : Fin 16) (b : Byte) : (s.setReg x b).rng = s.rng := rfl
@[simp] theorem State.setReg_fsm (x : Fin 16) (b : Byte) : (s.setReg x b).fsm = s.fsm := rfl
@[simp] theorem State.setReg_faultCode (x : Fin 16) (b : Byte) : (s.setReg x b).faultCode = s.faultCode := rfl
@[simp] theorem State.setReg_faultInfo (x : Fin 16) (b : Byte) : (s.setReg x b).faultInfo = s.faultInfo := rfl
@[simp] theorem State.setReg_unkSeen (x : Fin 16) (b : Byte) : (s.setReg x b).unkSeen = s.unkSeen := rfl
@[simp] theorem State.setReg_lastUnknown (x : Fin 16) (b : Byte) : (s.setReg x b).lastUnknown = s.lastUnknown := rfl
@[simp] theorem State.setReg_beep (x : Fin 16) (b : Byte) : (s.setReg x b).beep = s.beep := rfl
@[simp] theorem State.setReg_unknownStrobe (x : Fin 16) (b : Byte) :
    (s.setReg x b).unknownStrobe = s.unknownStrobe := rfl

/-! `setI` writes I and nothing else. -/

@[simp] theorem State.setI_mem (w : Word) : (s.setI w).mem = s.mem := rfl
@[simp] theorem State.setI_v (w : Word) : (s.setI w).v = s.v := rfl
@[simp] theorem State.setI_i (w : Word) : (s.setI w).i = w := rfl
@[simp] theorem State.setI_pc (w : Word) : (s.setI w).pc = s.pc := rfl
@[simp] theorem State.setI_stack (w : Word) : (s.setI w).stack = s.stack := rfl
@[simp] theorem State.setI_sp (w : Word) : (s.setI w).sp = s.sp := rfl
@[simp] theorem State.setI_dt (w : Word) : (s.setI w).dt = s.dt := rfl
@[simp] theorem State.setI_st (w : Word) : (s.setI w).st = s.st := rfl
@[simp] theorem State.setI_keys (w : Word) : (s.setI w).keys = s.keys := rfl
@[simp] theorem State.setI_fb (w : Word) : (s.setI w).fb = s.fb := rfl
@[simp] theorem State.setI_rng (w : Word) : (s.setI w).rng = s.rng := rfl
@[simp] theorem State.setI_fsm (w : Word) : (s.setI w).fsm = s.fsm := rfl
@[simp] theorem State.setI_faultCode (w : Word) : (s.setI w).faultCode = s.faultCode := rfl
@[simp] theorem State.setI_faultInfo (w : Word) : (s.setI w).faultInfo = s.faultInfo := rfl
@[simp] theorem State.setI_unkSeen (w : Word) : (s.setI w).unkSeen = s.unkSeen := rfl
@[simp] theorem State.setI_lastUnknown (w : Word) : (s.setI w).lastUnknown = s.lastUnknown := rfl
@[simp] theorem State.setI_beep (w : Word) : (s.setI w).beep = s.beep := rfl
@[simp] theorem State.setI_unknownStrobe (w : Word) : (s.setI w).unknownStrobe = s.unknownStrobe := rfl

/-! `memWrite` writes MEM and nothing else. -/

@[simp] theorem State.memWrite_mem (a : Nat) (b : Byte) :
    (s.memWrite a b).mem = if a ≤ 0xFFF then Memory.write s.mem a b else s.mem := rfl
@[simp] theorem State.memWrite_v (a : Nat) (b : Byte) : (s.memWrite a b).v = s.v := rfl
@[simp] theorem State.memWrite_i (a : Nat) (b : Byte) : (s.memWrite a b).i = s.i := rfl
@[simp] theorem State.memWrite_pc (a : Nat) (b : Byte) : (s.memWrite a b).pc = s.pc := rfl
@[simp] theorem State.memWrite_stack (a : Nat) (b : Byte) : (s.memWrite a b).stack = s.stack := rfl
@[simp] theorem State.memWrite_sp (a : Nat) (b : Byte) : (s.memWrite a b).sp = s.sp := rfl
@[simp] theorem State.memWrite_dt (a : Nat) (b : Byte) : (s.memWrite a b).dt = s.dt := rfl
@[simp] theorem State.memWrite_st (a : Nat) (b : Byte) : (s.memWrite a b).st = s.st := rfl
@[simp] theorem State.memWrite_keys (a : Nat) (b : Byte) : (s.memWrite a b).keys = s.keys := rfl
@[simp] theorem State.memWrite_fb (a : Nat) (b : Byte) : (s.memWrite a b).fb = s.fb := rfl
@[simp] theorem State.memWrite_rng (a : Nat) (b : Byte) : (s.memWrite a b).rng = s.rng := rfl
@[simp] theorem State.memWrite_fsm (a : Nat) (b : Byte) : (s.memWrite a b).fsm = s.fsm := rfl
@[simp] theorem State.memWrite_faultCode (a : Nat) (b : Byte) : (s.memWrite a b).faultCode = s.faultCode := rfl
@[simp] theorem State.memWrite_faultInfo (a : Nat) (b : Byte) : (s.memWrite a b).faultInfo = s.faultInfo := rfl
@[simp] theorem State.memWrite_unkSeen (a : Nat) (b : Byte) : (s.memWrite a b).unkSeen = s.unkSeen := rfl
@[simp] theorem State.memWrite_lastUnknown (a : Nat) (b : Byte) : (s.memWrite a b).lastUnknown = s.lastUnknown := rfl
@[simp] theorem State.memWrite_beep (a : Nat) (b : Byte) : (s.memWrite a b).beep = s.beep := rfl
@[simp] theorem State.memWrite_unknownStrobe (a : Nat) (b : Byte) :
    (s.memWrite a b).unknownStrobe = s.unknownStrobe := rfl

/-! `push` writes STACK and SP and nothing else. -/

@[simp] theorem State.push_mem (w : Word) (h : s.sp.val < 16) : (s.push w h).mem = s.mem := rfl
@[simp] theorem State.push_v (w : Word) (h : s.sp.val < 16) : (s.push w h).v = s.v := rfl
@[simp] theorem State.push_i (w : Word) (h : s.sp.val < 16) : (s.push w h).i = s.i := rfl
@[simp] theorem State.push_pc (w : Word) (h : s.sp.val < 16) : (s.push w h).pc = s.pc := rfl
@[simp] theorem State.push_stack (w : Word) (h : s.sp.val < 16) : (s.push w h).stack = s.stack.set s.sp.val w h := rfl
@[simp] theorem State.push_sp (w : Word) (h : s.sp.val < 16) : (s.push w h).sp = ⟨s.sp.val + 1, by omega⟩ := rfl
@[simp] theorem State.push_dt (w : Word) (h : s.sp.val < 16) : (s.push w h).dt = s.dt := rfl
@[simp] theorem State.push_st (w : Word) (h : s.sp.val < 16) : (s.push w h).st = s.st := rfl
@[simp] theorem State.push_keys (w : Word) (h : s.sp.val < 16) : (s.push w h).keys = s.keys := rfl
@[simp] theorem State.push_fb (w : Word) (h : s.sp.val < 16) : (s.push w h).fb = s.fb := rfl
@[simp] theorem State.push_rng (w : Word) (h : s.sp.val < 16) : (s.push w h).rng = s.rng := rfl
@[simp] theorem State.push_fsm (w : Word) (h : s.sp.val < 16) : (s.push w h).fsm = s.fsm := rfl
@[simp] theorem State.push_faultCode (w : Word) (h : s.sp.val < 16) : (s.push w h).faultCode = s.faultCode := rfl
@[simp] theorem State.push_faultInfo (w : Word) (h : s.sp.val < 16) : (s.push w h).faultInfo = s.faultInfo := rfl
@[simp] theorem State.push_unkSeen (w : Word) (h : s.sp.val < 16) : (s.push w h).unkSeen = s.unkSeen := rfl
@[simp] theorem State.push_lastUnknown (w : Word) (h : s.sp.val < 16) : (s.push w h).lastUnknown = s.lastUnknown := rfl
@[simp] theorem State.push_beep (w : Word) (h : s.sp.val < 16) : (s.push w h).beep = s.beep := rfl
@[simp] theorem State.push_unknownStrobe (w : Word) (h : s.sp.val < 16) :
    (s.push w h).unknownStrobe = s.unknownStrobe := rfl

/-! `pop` writes SP and nothing else. -/

@[simp] theorem State.pop_mem : (s.pop).mem = s.mem := rfl
@[simp] theorem State.pop_v : (s.pop).v = s.v := rfl
@[simp] theorem State.pop_i : (s.pop).i = s.i := rfl
@[simp] theorem State.pop_pc : (s.pop).pc = s.pc := rfl
@[simp] theorem State.pop_stack : (s.pop).stack = s.stack := rfl
@[simp] theorem State.pop_sp : (s.pop).sp = ⟨s.sp.val - 1, by omega⟩ := rfl
@[simp] theorem State.pop_dt : (s.pop).dt = s.dt := rfl
@[simp] theorem State.pop_st : (s.pop).st = s.st := rfl
@[simp] theorem State.pop_keys : (s.pop).keys = s.keys := rfl
@[simp] theorem State.pop_fb : (s.pop).fb = s.fb := rfl
@[simp] theorem State.pop_rng : (s.pop).rng = s.rng := rfl
@[simp] theorem State.pop_fsm : (s.pop).fsm = s.fsm := rfl
@[simp] theorem State.pop_faultCode : (s.pop).faultCode = s.faultCode := rfl
@[simp] theorem State.pop_faultInfo : (s.pop).faultInfo = s.faultInfo := rfl
@[simp] theorem State.pop_unkSeen : (s.pop).unkSeen = s.unkSeen := rfl
@[simp] theorem State.pop_lastUnknown : (s.pop).lastUnknown = s.lastUnknown := rfl
@[simp] theorem State.pop_beep : (s.pop).beep = s.beep := rfl
@[simp] theorem State.pop_unknownStrobe : (s.pop).unknownStrobe = s.unknownStrobe := rfl

/-! `flipCell` writes FB and nothing else. -/

@[simp] theorem State.flipCell_mem (t : Fin 2048) : (s.flipCell t).mem = s.mem := rfl
@[simp] theorem State.flipCell_v (t : Fin 2048) : (s.flipCell t).v = s.v := rfl
@[simp] theorem State.flipCell_i (t : Fin 2048) : (s.flipCell t).i = s.i := rfl
@[simp] theorem State.flipCell_pc (t : Fin 2048) : (s.flipCell t).pc = s.pc := rfl
@[simp] theorem State.flipCell_stack (t : Fin 2048) : (s.flipCell t).stack = s.stack := rfl
@[simp] theorem State.flipCell_sp (t : Fin 2048) : (s.flipCell t).sp = s.sp := rfl
@[simp] theorem State.flipCell_dt (t : Fin 2048) : (s.flipCell t).dt = s.dt := rfl
@[simp] theorem State.flipCell_st (t : Fin 2048) : (s.flipCell t).st = s.st := rfl
@[simp] theorem State.flipCell_keys (t : Fin 2048) : (s.flipCell t).keys = s.keys := rfl
@[simp] theorem State.flipCell_rng (t : Fin 2048) : (s.flipCell t).rng = s.rng := rfl
@[simp] theorem State.flipCell_fsm (t : Fin 2048) : (s.flipCell t).fsm = s.fsm := rfl
@[simp] theorem State.flipCell_faultCode (t : Fin 2048) : (s.flipCell t).faultCode = s.faultCode := rfl
@[simp] theorem State.flipCell_faultInfo (t : Fin 2048) : (s.flipCell t).faultInfo = s.faultInfo := rfl
@[simp] theorem State.flipCell_unkSeen (t : Fin 2048) : (s.flipCell t).unkSeen = s.unkSeen := rfl
@[simp] theorem State.flipCell_lastUnknown (t : Fin 2048) : (s.flipCell t).lastUnknown = s.lastUnknown := rfl
@[simp] theorem State.flipCell_beep (t : Fin 2048) : (s.flipCell t).beep = s.beep := rfl
@[simp] theorem State.flipCell_unknownStrobe (t : Fin 2048) : (s.flipCell t).unknownStrobe = s.unknownStrobe := rfl

/-! `clearScreen` writes FB and nothing else. -/

@[simp] theorem State.clearScreen_mem : (s.clearScreen).mem = s.mem := rfl
@[simp] theorem State.clearScreen_v : (s.clearScreen).v = s.v := rfl
@[simp] theorem State.clearScreen_i : (s.clearScreen).i = s.i := rfl
@[simp] theorem State.clearScreen_pc : (s.clearScreen).pc = s.pc := rfl
@[simp] theorem State.clearScreen_stack : (s.clearScreen).stack = s.stack := rfl
@[simp] theorem State.clearScreen_sp : (s.clearScreen).sp = s.sp := rfl
@[simp] theorem State.clearScreen_dt : (s.clearScreen).dt = s.dt := rfl
@[simp] theorem State.clearScreen_st : (s.clearScreen).st = s.st := rfl
@[simp] theorem State.clearScreen_keys : (s.clearScreen).keys = s.keys := rfl
@[simp] theorem State.clearScreen_fb : (s.clearScreen).fb = Vector.replicate 32 0 := rfl
@[simp] theorem State.clearScreen_rng : (s.clearScreen).rng = s.rng := rfl
@[simp] theorem State.clearScreen_fsm : (s.clearScreen).fsm = s.fsm := rfl
@[simp] theorem State.clearScreen_faultCode : (s.clearScreen).faultCode = s.faultCode := rfl
@[simp] theorem State.clearScreen_faultInfo : (s.clearScreen).faultInfo = s.faultInfo := rfl
@[simp] theorem State.clearScreen_unkSeen : (s.clearScreen).unkSeen = s.unkSeen := rfl
@[simp] theorem State.clearScreen_lastUnknown : (s.clearScreen).lastUnknown = s.lastUnknown := rfl
@[simp] theorem State.clearScreen_beep : (s.clearScreen).beep = s.beep := rfl
@[simp] theorem State.clearScreen_unknownStrobe : (s.clearScreen).unknownStrobe = s.unknownStrobe := rfl

/-! `setRng` writes RNG and nothing else. -/

@[simp] theorem State.setRng_mem (r : Rng) : (s.setRng r).mem = s.mem := rfl
@[simp] theorem State.setRng_v (r : Rng) : (s.setRng r).v = s.v := rfl
@[simp] theorem State.setRng_i (r : Rng) : (s.setRng r).i = s.i := rfl
@[simp] theorem State.setRng_pc (r : Rng) : (s.setRng r).pc = s.pc := rfl
@[simp] theorem State.setRng_stack (r : Rng) : (s.setRng r).stack = s.stack := rfl
@[simp] theorem State.setRng_sp (r : Rng) : (s.setRng r).sp = s.sp := rfl
@[simp] theorem State.setRng_dt (r : Rng) : (s.setRng r).dt = s.dt := rfl
@[simp] theorem State.setRng_st (r : Rng) : (s.setRng r).st = s.st := rfl
@[simp] theorem State.setRng_keys (r : Rng) : (s.setRng r).keys = s.keys := rfl
@[simp] theorem State.setRng_fb (r : Rng) : (s.setRng r).fb = s.fb := rfl
@[simp] theorem State.setRng_rng (r : Rng) : (s.setRng r).rng = r := rfl
@[simp] theorem State.setRng_fsm (r : Rng) : (s.setRng r).fsm = s.fsm := rfl
@[simp] theorem State.setRng_faultCode (r : Rng) : (s.setRng r).faultCode = s.faultCode := rfl
@[simp] theorem State.setRng_faultInfo (r : Rng) : (s.setRng r).faultInfo = s.faultInfo := rfl
@[simp] theorem State.setRng_unkSeen (r : Rng) : (s.setRng r).unkSeen = s.unkSeen := rfl
@[simp] theorem State.setRng_lastUnknown (r : Rng) : (s.setRng r).lastUnknown = s.lastUnknown := rfl
@[simp] theorem State.setRng_beep (r : Rng) : (s.setRng r).beep = s.beep := rfl
@[simp] theorem State.setRng_unknownStrobe (r : Rng) : (s.setRng r).unknownStrobe = s.unknownStrobe := rfl

/-! `setDt` writes DT and nothing else. -/

@[simp] theorem State.setDt_mem (b : Byte) : (s.setDt b).mem = s.mem := rfl
@[simp] theorem State.setDt_v (b : Byte) : (s.setDt b).v = s.v := rfl
@[simp] theorem State.setDt_i (b : Byte) : (s.setDt b).i = s.i := rfl
@[simp] theorem State.setDt_pc (b : Byte) : (s.setDt b).pc = s.pc := rfl
@[simp] theorem State.setDt_stack (b : Byte) : (s.setDt b).stack = s.stack := rfl
@[simp] theorem State.setDt_sp (b : Byte) : (s.setDt b).sp = s.sp := rfl
@[simp] theorem State.setDt_dt (b : Byte) : (s.setDt b).dt = b := rfl
@[simp] theorem State.setDt_st (b : Byte) : (s.setDt b).st = s.st := rfl
@[simp] theorem State.setDt_keys (b : Byte) : (s.setDt b).keys = s.keys := rfl
@[simp] theorem State.setDt_fb (b : Byte) : (s.setDt b).fb = s.fb := rfl
@[simp] theorem State.setDt_rng (b : Byte) : (s.setDt b).rng = s.rng := rfl
@[simp] theorem State.setDt_fsm (b : Byte) : (s.setDt b).fsm = s.fsm := rfl
@[simp] theorem State.setDt_faultCode (b : Byte) : (s.setDt b).faultCode = s.faultCode := rfl
@[simp] theorem State.setDt_faultInfo (b : Byte) : (s.setDt b).faultInfo = s.faultInfo := rfl
@[simp] theorem State.setDt_unkSeen (b : Byte) : (s.setDt b).unkSeen = s.unkSeen := rfl
@[simp] theorem State.setDt_lastUnknown (b : Byte) : (s.setDt b).lastUnknown = s.lastUnknown := rfl
@[simp] theorem State.setDt_beep (b : Byte) : (s.setDt b).beep = s.beep := rfl
@[simp] theorem State.setDt_unknownStrobe (b : Byte) : (s.setDt b).unknownStrobe = s.unknownStrobe := rfl

/-! `setSt` writes ST and nothing else. -/

@[simp] theorem State.setSt_mem (b : Byte) : (s.setSt b).mem = s.mem := rfl
@[simp] theorem State.setSt_v (b : Byte) : (s.setSt b).v = s.v := rfl
@[simp] theorem State.setSt_i (b : Byte) : (s.setSt b).i = s.i := rfl
@[simp] theorem State.setSt_pc (b : Byte) : (s.setSt b).pc = s.pc := rfl
@[simp] theorem State.setSt_stack (b : Byte) : (s.setSt b).stack = s.stack := rfl
@[simp] theorem State.setSt_sp (b : Byte) : (s.setSt b).sp = s.sp := rfl
@[simp] theorem State.setSt_dt (b : Byte) : (s.setSt b).dt = s.dt := rfl
@[simp] theorem State.setSt_st (b : Byte) : (s.setSt b).st = b := rfl
@[simp] theorem State.setSt_keys (b : Byte) : (s.setSt b).keys = s.keys := rfl
@[simp] theorem State.setSt_fb (b : Byte) : (s.setSt b).fb = s.fb := rfl
@[simp] theorem State.setSt_rng (b : Byte) : (s.setSt b).rng = s.rng := rfl
@[simp] theorem State.setSt_fsm (b : Byte) : (s.setSt b).fsm = s.fsm := rfl
@[simp] theorem State.setSt_faultCode (b : Byte) : (s.setSt b).faultCode = s.faultCode := rfl
@[simp] theorem State.setSt_faultInfo (b : Byte) : (s.setSt b).faultInfo = s.faultInfo := rfl
@[simp] theorem State.setSt_unkSeen (b : Byte) : (s.setSt b).unkSeen = s.unkSeen := rfl
@[simp] theorem State.setSt_lastUnknown (b : Byte) : (s.setSt b).lastUnknown = s.lastUnknown := rfl
@[simp] theorem State.setSt_beep (b : Byte) : (s.setSt b).beep = s.beep := rfl
@[simp] theorem State.setSt_unknownStrobe (b : Byte) : (s.setSt b).unknownStrobe = s.unknownStrobe := rfl

/-! `timerStep` writes DT, ST and the beep strobe and nothing else. -/

@[simp] theorem State.timerStep_mem : (s.timerStep).mem = s.mem := rfl
@[simp] theorem State.timerStep_v : (s.timerStep).v = s.v := rfl
@[simp] theorem State.timerStep_i : (s.timerStep).i = s.i := rfl
@[simp] theorem State.timerStep_pc : (s.timerStep).pc = s.pc := rfl
@[simp] theorem State.timerStep_stack : (s.timerStep).stack = s.stack := rfl
@[simp] theorem State.timerStep_sp : (s.timerStep).sp = s.sp := rfl
@[simp] theorem State.timerStep_dt : (s.timerStep).dt = countDown s.dt := rfl
@[simp] theorem State.timerStep_st : (s.timerStep).st = countDown s.st := rfl
@[simp] theorem State.timerStep_keys : (s.timerStep).keys = s.keys := rfl
@[simp] theorem State.timerStep_fb : (s.timerStep).fb = s.fb := rfl
@[simp] theorem State.timerStep_rng : (s.timerStep).rng = s.rng := rfl
@[simp] theorem State.timerStep_fsm : (s.timerStep).fsm = s.fsm := rfl
@[simp] theorem State.timerStep_faultCode : (s.timerStep).faultCode = s.faultCode := rfl
@[simp] theorem State.timerStep_faultInfo : (s.timerStep).faultInfo = s.faultInfo := rfl
@[simp] theorem State.timerStep_unkSeen : (s.timerStep).unkSeen = s.unkSeen := rfl
@[simp] theorem State.timerStep_lastUnknown : (s.timerStep).lastUnknown = s.lastUnknown := rfl
@[simp] theorem State.timerStep_beep : (s.timerStep).beep = if 0 < s.st.toNat then true else s.beep := rfl
@[simp] theorem State.timerStep_unknownStrobe : (s.timerStep).unknownStrobe = s.unknownStrobe := rfl

/-! `setPc` writes pc and nothing else. -/

@[simp] theorem State.setPc_mem (w : Word) : (s.setPc w).mem = s.mem := rfl
@[simp] theorem State.setPc_v (w : Word) : (s.setPc w).v = s.v := rfl
@[simp] theorem State.setPc_i (w : Word) : (s.setPc w).i = s.i := rfl
@[simp] theorem State.setPc_pc (w : Word) : (s.setPc w).pc = w := rfl
@[simp] theorem State.setPc_stack (w : Word) : (s.setPc w).stack = s.stack := rfl
@[simp] theorem State.setPc_sp (w : Word) : (s.setPc w).sp = s.sp := rfl
@[simp] theorem State.setPc_dt (w : Word) : (s.setPc w).dt = s.dt := rfl
@[simp] theorem State.setPc_st (w : Word) : (s.setPc w).st = s.st := rfl
@[simp] theorem State.setPc_keys (w : Word) : (s.setPc w).keys = s.keys := rfl
@[simp] theorem State.setPc_fb (w : Word) : (s.setPc w).fb = s.fb := rfl
@[simp] theorem State.setPc_rng (w : Word) : (s.setPc w).rng = s.rng := rfl
@[simp] theorem State.setPc_fsm (w : Word) : (s.setPc w).fsm = s.fsm := rfl
@[simp] theorem State.setPc_faultCode (w : Word) : (s.setPc w).faultCode = s.faultCode := rfl
@[simp] theorem State.setPc_faultInfo (w : Word) : (s.setPc w).faultInfo = s.faultInfo := rfl
@[simp] theorem State.setPc_unkSeen (w : Word) : (s.setPc w).unkSeen = s.unkSeen := rfl
@[simp] theorem State.setPc_lastUnknown (w : Word) : (s.setPc w).lastUnknown = s.lastUnknown := rfl
@[simp] theorem State.setPc_beep (w : Word) : (s.setPc w).beep = s.beep := rfl
@[simp] theorem State.setPc_unknownStrobe (w : Word) : (s.setPc w).unknownStrobe = s.unknownStrobe := rfl

/-! `setFsm` writes FSM_STATE and nothing else. -/

@[simp] theorem State.setFsm_mem (f : FsmState) : (s.setFsm f).mem = s.mem := rfl
@[simp] theorem State.setFsm_v (f : FsmState) : (s.setFsm f).v = s.v := rfl
@[simp] theorem State.setFsm_i (f : FsmState) : (s.setFsm f).i = s.i := rfl
@[simp] theorem State.setFsm_pc (f : FsmState) : (s.setFsm f).pc = s.pc := rfl
@[simp] theorem State.setFsm_stack (f : FsmState) : (s.setFsm f).stack = s.stack := rfl
@[simp] theorem State.setFsm_sp (f : FsmState) : (s.setFsm f).sp = s.sp := rfl
@[simp] theorem State.setFsm_dt (f : FsmState) : (s.setFsm f).dt = s.dt := rfl
@[simp] theorem State.setFsm_st (f : FsmState) : (s.setFsm f).st = s.st := rfl
@[simp] theorem State.setFsm_keys (f : FsmState) : (s.setFsm f).keys = s.keys := rfl
@[simp] theorem State.setFsm_fb (f : FsmState) : (s.setFsm f).fb = s.fb := rfl
@[simp] theorem State.setFsm_rng (f : FsmState) : (s.setFsm f).rng = s.rng := rfl
@[simp] theorem State.setFsm_fsm (f : FsmState) : (s.setFsm f).fsm = f := rfl
@[simp] theorem State.setFsm_faultCode (f : FsmState) : (s.setFsm f).faultCode = s.faultCode := rfl
@[simp] theorem State.setFsm_faultInfo (f : FsmState) : (s.setFsm f).faultInfo = s.faultInfo := rfl
@[simp] theorem State.setFsm_unkSeen (f : FsmState) : (s.setFsm f).unkSeen = s.unkSeen := rfl
@[simp] theorem State.setFsm_lastUnknown (f : FsmState) : (s.setFsm f).lastUnknown = s.lastUnknown := rfl
@[simp] theorem State.setFsm_beep (f : FsmState) : (s.setFsm f).beep = s.beep := rfl
@[simp] theorem State.setFsm_unknownStrobe (f : FsmState) : (s.setFsm f).unknownStrobe = s.unknownStrobe := rfl

/-! `raiseFault` writes FSM_STATE, FAULT_CODE and FAULT_INFO (R244) and nothing else. -/

@[simp] theorem State.raiseFault_mem (c : FaultCode) (n : Nat) : (s.raiseFault c n).mem = s.mem := rfl
@[simp] theorem State.raiseFault_v (c : FaultCode) (n : Nat) : (s.raiseFault c n).v = s.v := rfl
@[simp] theorem State.raiseFault_i (c : FaultCode) (n : Nat) : (s.raiseFault c n).i = s.i := rfl
@[simp] theorem State.raiseFault_pc (c : FaultCode) (n : Nat) : (s.raiseFault c n).pc = s.pc := rfl
@[simp] theorem State.raiseFault_stack (c : FaultCode) (n : Nat) : (s.raiseFault c n).stack = s.stack := rfl
@[simp] theorem State.raiseFault_sp (c : FaultCode) (n : Nat) : (s.raiseFault c n).sp = s.sp := rfl
@[simp] theorem State.raiseFault_dt (c : FaultCode) (n : Nat) : (s.raiseFault c n).dt = s.dt := rfl
@[simp] theorem State.raiseFault_st (c : FaultCode) (n : Nat) : (s.raiseFault c n).st = s.st := rfl
@[simp] theorem State.raiseFault_keys (c : FaultCode) (n : Nat) : (s.raiseFault c n).keys = s.keys := rfl
@[simp] theorem State.raiseFault_fb (c : FaultCode) (n : Nat) : (s.raiseFault c n).fb = s.fb := rfl
@[simp] theorem State.raiseFault_rng (c : FaultCode) (n : Nat) : (s.raiseFault c n).rng = s.rng := rfl
@[simp] theorem State.raiseFault_fsm (c : FaultCode) (n : Nat) : (s.raiseFault c n).fsm = .fault := rfl
@[simp] theorem State.raiseFault_faultCode (c : FaultCode) (n : Nat) : (s.raiseFault c n).faultCode = c := rfl
@[simp] theorem State.raiseFault_faultInfo (c : FaultCode) (n : Nat) :
    (s.raiseFault c n).faultInfo = BitVec.ofNat 16 n := rfl
@[simp] theorem State.raiseFault_unkSeen (c : FaultCode) (n : Nat) : (s.raiseFault c n).unkSeen = s.unkSeen := rfl
@[simp] theorem State.raiseFault_lastUnknown (c : FaultCode) (n : Nat) :
    (s.raiseFault c n).lastUnknown = s.lastUnknown := rfl
@[simp] theorem State.raiseFault_beep (c : FaultCode) (n : Nat) : (s.raiseFault c n).beep = s.beep := rfl
@[simp] theorem State.raiseFault_unknownStrobe (c : FaultCode) (n : Nat) :
    (s.raiseFault c n).unknownStrobe = s.unknownStrobe := rfl

/-! `markUnknown` writes UNK_SEEN, LAST_UNKNOWN and the strobe (R109) and nothing else. -/

@[simp] theorem State.markUnknown_mem (op : Word) : (s.markUnknown op).mem = s.mem := rfl
@[simp] theorem State.markUnknown_v (op : Word) : (s.markUnknown op).v = s.v := rfl
@[simp] theorem State.markUnknown_i (op : Word) : (s.markUnknown op).i = s.i := rfl
@[simp] theorem State.markUnknown_pc (op : Word) : (s.markUnknown op).pc = s.pc := rfl
@[simp] theorem State.markUnknown_stack (op : Word) : (s.markUnknown op).stack = s.stack := rfl
@[simp] theorem State.markUnknown_sp (op : Word) : (s.markUnknown op).sp = s.sp := rfl
@[simp] theorem State.markUnknown_dt (op : Word) : (s.markUnknown op).dt = s.dt := rfl
@[simp] theorem State.markUnknown_st (op : Word) : (s.markUnknown op).st = s.st := rfl
@[simp] theorem State.markUnknown_keys (op : Word) : (s.markUnknown op).keys = s.keys := rfl
@[simp] theorem State.markUnknown_fb (op : Word) : (s.markUnknown op).fb = s.fb := rfl
@[simp] theorem State.markUnknown_rng (op : Word) : (s.markUnknown op).rng = s.rng := rfl
@[simp] theorem State.markUnknown_fsm (op : Word) : (s.markUnknown op).fsm = s.fsm := rfl
@[simp] theorem State.markUnknown_faultCode (op : Word) : (s.markUnknown op).faultCode = s.faultCode := rfl
@[simp] theorem State.markUnknown_faultInfo (op : Word) : (s.markUnknown op).faultInfo = s.faultInfo := rfl
@[simp] theorem State.markUnknown_unkSeen (op : Word) : (s.markUnknown op).unkSeen = true := rfl
@[simp] theorem State.markUnknown_lastUnknown (op : Word) : (s.markUnknown op).lastUnknown = op := rfl
@[simp] theorem State.markUnknown_beep (op : Word) : (s.markUnknown op).beep = s.beep := rfl
@[simp] theorem State.markUnknown_unknownStrobe (op : Word) : (s.markUnknown op).unknownStrobe = some op := rfl

/-! `deassertStrobes` writes the strobes and nothing else. -/

@[simp] theorem State.deassertStrobes_mem : (s.deassertStrobes).mem = s.mem := rfl
@[simp] theorem State.deassertStrobes_v : (s.deassertStrobes).v = s.v := rfl
@[simp] theorem State.deassertStrobes_i : (s.deassertStrobes).i = s.i := rfl
@[simp] theorem State.deassertStrobes_pc : (s.deassertStrobes).pc = s.pc := rfl
@[simp] theorem State.deassertStrobes_stack : (s.deassertStrobes).stack = s.stack := rfl
@[simp] theorem State.deassertStrobes_sp : (s.deassertStrobes).sp = s.sp := rfl
@[simp] theorem State.deassertStrobes_dt : (s.deassertStrobes).dt = s.dt := rfl
@[simp] theorem State.deassertStrobes_st : (s.deassertStrobes).st = s.st := rfl
@[simp] theorem State.deassertStrobes_keys : (s.deassertStrobes).keys = s.keys := rfl
@[simp] theorem State.deassertStrobes_fb : (s.deassertStrobes).fb = s.fb := rfl
@[simp] theorem State.deassertStrobes_rng : (s.deassertStrobes).rng = s.rng := rfl
@[simp] theorem State.deassertStrobes_fsm : (s.deassertStrobes).fsm = s.fsm := rfl
@[simp] theorem State.deassertStrobes_faultCode : (s.deassertStrobes).faultCode = s.faultCode := rfl
@[simp] theorem State.deassertStrobes_faultInfo : (s.deassertStrobes).faultInfo = s.faultInfo := rfl
@[simp] theorem State.deassertStrobes_unkSeen : (s.deassertStrobes).unkSeen = s.unkSeen := rfl
@[simp] theorem State.deassertStrobes_lastUnknown : (s.deassertStrobes).lastUnknown = s.lastUnknown := rfl
@[simp] theorem State.deassertStrobes_beep : (s.deassertStrobes).beep = false := rfl
@[simp] theorem State.deassertStrobes_unknownStrobe : (s.deassertStrobes).unknownStrobe = none := rfl

/-! `loadRegs` writes V (R186) and nothing else. -/

@[simp] theorem State.loadRegs_mem (x : Fin 16) : (s.loadRegs x).mem = s.mem := rfl
@[simp] theorem State.loadRegs_i (x : Fin 16) : (s.loadRegs x).i = s.i := rfl
@[simp] theorem State.loadRegs_pc (x : Fin 16) : (s.loadRegs x).pc = s.pc := rfl
@[simp] theorem State.loadRegs_stack (x : Fin 16) : (s.loadRegs x).stack = s.stack := rfl
@[simp] theorem State.loadRegs_sp (x : Fin 16) : (s.loadRegs x).sp = s.sp := rfl
@[simp] theorem State.loadRegs_dt (x : Fin 16) : (s.loadRegs x).dt = s.dt := rfl
@[simp] theorem State.loadRegs_st (x : Fin 16) : (s.loadRegs x).st = s.st := rfl
@[simp] theorem State.loadRegs_keys (x : Fin 16) : (s.loadRegs x).keys = s.keys := rfl
@[simp] theorem State.loadRegs_fb (x : Fin 16) : (s.loadRegs x).fb = s.fb := rfl
@[simp] theorem State.loadRegs_rng (x : Fin 16) : (s.loadRegs x).rng = s.rng := rfl
@[simp] theorem State.loadRegs_fsm (x : Fin 16) : (s.loadRegs x).fsm = s.fsm := rfl
@[simp] theorem State.loadRegs_faultCode (x : Fin 16) : (s.loadRegs x).faultCode = s.faultCode := rfl
@[simp] theorem State.loadRegs_faultInfo (x : Fin 16) : (s.loadRegs x).faultInfo = s.faultInfo := rfl
@[simp] theorem State.loadRegs_unkSeen (x : Fin 16) : (s.loadRegs x).unkSeen = s.unkSeen := rfl
@[simp] theorem State.loadRegs_lastUnknown (x : Fin 16) : (s.loadRegs x).lastUnknown = s.lastUnknown := rfl
@[simp] theorem State.loadRegs_beep (x : Fin 16) : (s.loadRegs x).beep = s.beep := rfl
@[simp] theorem State.loadRegs_unknownStrobe (x : Fin 16) : (s.loadRegs x).unknownStrobe = s.unknownStrobe := rfl

/-! `setKey` writes KEYS (R258) and nothing else. -/

@[simp] theorem State.setKey_mem (k : Fin 16) (b : Byte) : (s.setKey k b).mem = s.mem := rfl
@[simp] theorem State.setKey_v (k : Fin 16) (b : Byte) : (s.setKey k b).v = s.v := rfl
@[simp] theorem State.setKey_i (k : Fin 16) (b : Byte) : (s.setKey k b).i = s.i := rfl
@[simp] theorem State.setKey_pc (k : Fin 16) (b : Byte) : (s.setKey k b).pc = s.pc := rfl
@[simp] theorem State.setKey_stack (k : Fin 16) (b : Byte) : (s.setKey k b).stack = s.stack := rfl
@[simp] theorem State.setKey_sp (k : Fin 16) (b : Byte) : (s.setKey k b).sp = s.sp := rfl
@[simp] theorem State.setKey_dt (k : Fin 16) (b : Byte) : (s.setKey k b).dt = s.dt := rfl
@[simp] theorem State.setKey_st (k : Fin 16) (b : Byte) : (s.setKey k b).st = s.st := rfl
@[simp] theorem State.setKey_keys (k : Fin 16) (b : Byte) : (s.setKey k b).keys = s.keys.set k b := rfl
@[simp] theorem State.setKey_fb (k : Fin 16) (b : Byte) : (s.setKey k b).fb = s.fb := rfl
@[simp] theorem State.setKey_rng (k : Fin 16) (b : Byte) : (s.setKey k b).rng = s.rng := rfl
@[simp] theorem State.setKey_fsm (k : Fin 16) (b : Byte) : (s.setKey k b).fsm = s.fsm := rfl
@[simp] theorem State.setKey_faultCode (k : Fin 16) (b : Byte) : (s.setKey k b).faultCode = s.faultCode := rfl
@[simp] theorem State.setKey_faultInfo (k : Fin 16) (b : Byte) : (s.setKey k b).faultInfo = s.faultInfo := rfl
@[simp] theorem State.setKey_unkSeen (k : Fin 16) (b : Byte) : (s.setKey k b).unkSeen = s.unkSeen := rfl
@[simp] theorem State.setKey_lastUnknown (k : Fin 16) (b : Byte) : (s.setKey k b).lastUnknown = s.lastUnknown := rfl
@[simp] theorem State.setKey_beep (k : Fin 16) (b : Byte) : (s.setKey k b).beep = s.beep := rfl
@[simp] theorem State.setKey_unknownStrobe (k : Fin 16) (b : Byte) :
    (s.setKey k b).unknownStrobe = s.unknownStrobe := rfl

/-! The fields of the state after reset (R41, R270). -/

@[simp] theorem State.reset_mem : State.reset.mem = [] := rfl
@[simp] theorem State.reset_v : State.reset.v = Vector.replicate 16 0 := rfl
@[simp] theorem State.reset_i : State.reset.i = 0 := rfl
@[simp] theorem State.reset_pc : State.reset.pc = 0x200 := rfl
@[simp] theorem State.reset_stack : State.reset.stack = Vector.replicate 16 0 := rfl
@[simp] theorem State.reset_sp : State.reset.sp = 0 := rfl
@[simp] theorem State.reset_dt : State.reset.dt = 0 := rfl
@[simp] theorem State.reset_st : State.reset.st = 0 := rfl
@[simp] theorem State.reset_keys : State.reset.keys = Vector.replicate 16 0 := rfl
@[simp] theorem State.reset_fb : State.reset.fb = Vector.replicate 32 0 := rfl
@[simp] theorem State.reset_rng : State.reset.rng = prngSeed Params.seed := rfl
@[simp] theorem State.reset_fsm : State.reset.fsm = .load := rfl
@[simp] theorem State.reset_faultCode : State.reset.faultCode = .none := rfl
@[simp] theorem State.reset_faultInfo : State.reset.faultInfo = 0 := rfl
@[simp] theorem State.reset_unkSeen : State.reset.unkSeen = false := rfl
@[simp] theorem State.reset_lastUnknown : State.reset.lastUnknown = 0 := rfl
@[simp] theorem State.reset_beep : State.reset.beep = false := rfl
@[simp] theorem State.reset_unknownStrobe : State.reset.unknownStrobe = none := rfl

end Sys2Proof.Machine
end

