-- ==== Sys2Proof/Laws/Registers.lean ====
section
/-! SUPPORT. What reading a general register, a stack slot, a memory byte or a cell gives after each named update. -/

namespace Sys2Proof.Machine

variable (s : State)

theorem State.reg_setReg (x y : Fin 16) (b : Byte) :
    (s.setReg x b).reg y = if y = x then b else s.reg y := by
  simp only [State.reg, State.setReg, Fin.getElem_fin, Vector.getElem_set, Fin.ext_iff, eq_comm]

@[simp] theorem State.reg_setReg_self (x : Fin 16) (b : Byte) : (s.setReg x b).reg x = b := by
  simp [State.reg_setReg]

theorem State.reg_setReg_of_ne {x y : Fin 16} (b : Byte) (h : y ≠ x) : (s.setReg x b).reg y = s.reg y := by
  simp [State.reg_setReg, h]

/-- Registers, memory bytes, cells, slots and keys depend on their own field only. -/
theorem State.reg_congr {s t : State} (h : t.v = s.v) (x : Fin 16) : t.reg x = s.reg x := by simp [State.reg, h]
theorem State.memRead_congr {s t : State} (h : t.mem = s.mem) (a : Nat) : t.memRead a = s.memRead a := by
  simp [State.memRead, h]
theorem State.cell_congr {s t : State} (h : t.fb = s.fb) (c : Fin 2048) : t.cell c = s.cell c := by
  simp [State.cell, h]
theorem State.slot_congr {s t : State} (h : t.stack = s.stack) (j : Fin 16) : t.slot j = s.slot j := by
  simp [State.slot, h]
theorem State.keyPressed_congr {s t : State} (h : t.keys = s.keys) (k : Fin 16) : t.keyPressed k = s.keyPressed k := by
  simp [State.keyPressed, h]

/-- Two states with the same sixteen registers hold the same register file. -/
theorem State.v_ext {s t : State} (h : ∀ x, t.reg x = s.reg x) : t.v = s.v := by
  apply Vector.ext
  intro j hj
  simpa [State.reg] using h ⟨j, hj⟩

@[simp] theorem State.reset_reg (x : Fin 16) : State.reset.reg x = 0 := by
  simp [State.reg, State.reset]
@[simp] theorem State.reset_slot (j : Fin 16) : State.reset.slot j = 0 := by
  simp [State.slot, State.reset]
@[simp] theorem State.reset_keyPressed (k : Fin 16) : State.reset.keyPressed k = false := by
  simp [State.keyPressed, State.reset]
@[simp] theorem State.reset_cell (c : Fin 2048) : State.reset.cell c = false := by
  simp [State.cell, State.reset]

/-- R186: FX65 loads V0 to VX and no other register. -/
theorem State.reg_loadRegs (x k : Fin 16) :
    (s.loadRegs x).reg k = if k ≤ x then s.memRead (s.i.toNat + k.val) else s.reg k := by
  simp [State.reg, State.loadRegs, State.memRead]

@[simp] theorem State.length_regsUpTo (x : Fin 16) : (s.regsUpTo x).length = x.val + 1 := by
  simp [State.regsUpTo]

/-- R185: entry k of the stored list is `V[k]`. -/
theorem State.getElem_regsUpTo (x : Fin 16) (k : Nat) (h : k < (s.regsUpTo x).length) :
    (s.regsUpTo x)[k] = s.reg ⟨k, by have := s.length_regsUpTo x; omega⟩ := by
  simp [State.regsUpTo, State.reg]

/-- `STACK[j]` after a push (R125): the slot SP named holds the value, the others are as they were. -/
theorem State.slot_push (w : Word) (h : s.sp.val < 16) (j : Fin 16) :
    (s.push w h).slot j = if j.val = s.sp.val then w else s.slot j := by
  simp only [State.slot, State.push, Fin.getElem_fin, Vector.getElem_set, eq_comm]

/-- A pop reads the slot a push has just written (R121, R125). -/
theorem State.topSlot_push (w : Word) (h : s.sp.val < 16) : (s.push w h).topSlot (by simp) = w := by
  simp [State.topSlot, State.push]

/-! Reading through an update of another part of the state. -/

@[simp] theorem State.setReg_memRead (x : Fin 16) (b : Byte) (q : Nat) :
    (s.setReg x b).memRead q = s.memRead q := rfl
@[simp] theorem State.setReg_slot (x : Fin 16) (b : Byte) (j : Fin 16) :
    (s.setReg x b).slot j = s.slot j := rfl
@[simp] theorem State.setReg_cell (x : Fin 16) (b : Byte) (d : Fin 2048) :
    (s.setReg x b).cell d = s.cell d := rfl
@[simp] theorem State.setReg_keyPressed (x : Fin 16) (b : Byte) (j : Fin 16) :
    (s.setReg x b).keyPressed j = s.keyPressed j := rfl
@[simp] theorem State.setI_reg (w : Word) (y : Fin 16) :
    (s.setI w).reg y = s.reg y := rfl
@[simp] theorem State.setI_memRead (w : Word) (q : Nat) :
    (s.setI w).memRead q = s.memRead q := rfl
@[simp] theorem State.setI_slot (w : Word) (j : Fin 16) :
    (s.setI w).slot j = s.slot j := rfl
@[simp] theorem State.setI_cell (w : Word) (d : Fin 2048) :
    (s.setI w).cell d = s.cell d := rfl
@[simp] theorem State.setI_keyPressed (w : Word) (j : Fin 16) :
    (s.setI w).keyPressed j = s.keyPressed j := rfl
@[simp] theorem State.memWrite_reg (a : Nat) (b : Byte) (y : Fin 16) :
    (s.memWrite a b).reg y = s.reg y := rfl
@[simp] theorem State.memWrite_slot (a : Nat) (b : Byte) (j : Fin 16) :
    (s.memWrite a b).slot j = s.slot j := rfl
@[simp] theorem State.memWrite_cell (a : Nat) (b : Byte) (d : Fin 2048) :
    (s.memWrite a b).cell d = s.cell d := rfl
@[simp] theorem State.memWrite_keyPressed (a : Nat) (b : Byte) (j : Fin 16) :
    (s.memWrite a b).keyPressed j = s.keyPressed j := rfl
@[simp] theorem State.push_reg (w : Word) (h : s.sp.val < 16) (y : Fin 16) :
    (s.push w h).reg y = s.reg y := rfl
@[simp] theorem State.push_memRead (w : Word) (h : s.sp.val < 16) (q : Nat) :
    (s.push w h).memRead q = s.memRead q := rfl
@[simp] theorem State.push_cell (w : Word) (h : s.sp.val < 16) (d : Fin 2048) :
    (s.push w h).cell d = s.cell d := rfl
@[simp] theorem State.push_keyPressed (w : Word) (h : s.sp.val < 16) (j : Fin 16) :
    (s.push w h).keyPressed j = s.keyPressed j := rfl
@[simp] theorem State.pop_reg (y : Fin 16) :
    (s.pop).reg y = s.reg y := rfl
@[simp] theorem State.pop_memRead (q : Nat) :
    (s.pop).memRead q = s.memRead q := rfl
@[simp] theorem State.pop_slot (j : Fin 16) :
    (s.pop).slot j = s.slot j := rfl
@[simp] theorem State.pop_cell (d : Fin 2048) :
    (s.pop).cell d = s.cell d := rfl
@[simp] theorem State.pop_keyPressed (j : Fin 16) :
    (s.pop).keyPressed j = s.keyPressed j := rfl
@[simp] theorem State.flipCell_reg (t : Fin 2048) (y : Fin 16) :
    (s.flipCell t).reg y = s.reg y := rfl
@[simp] theorem State.flipCell_memRead (t : Fin 2048) (q : Nat) :
    (s.flipCell t).memRead q = s.memRead q := rfl
@[simp] theorem State.flipCell_slot (t : Fin 2048) (j : Fin 16) :
    (s.flipCell t).slot j = s.slot j := rfl
@[simp] theorem State.flipCell_keyPressed (t : Fin 2048) (j : Fin 16) :
    (s.flipCell t).keyPressed j = s.keyPressed j := rfl
@[simp] theorem State.clearScreen_reg (y : Fin 16) :
    (s.clearScreen).reg y = s.reg y := rfl
@[simp] theorem State.clearScreen_memRead (q : Nat) :
    (s.clearScreen).memRead q = s.memRead q := rfl
@[simp] theorem State.clearScreen_slot (j : Fin 16) :
    (s.clearScreen).slot j = s.slot j := rfl
@[simp] theorem State.clearScreen_keyPressed (j : Fin 16) :
    (s.clearScreen).keyPressed j = s.keyPressed j := rfl
@[simp] theorem State.setRng_reg (r : Rng) (y : Fin 16) :
    (s.setRng r).reg y = s.reg y := rfl
@[simp] theorem State.setRng_memRead (r : Rng) (q : Nat) :
    (s.setRng r).memRead q = s.memRead q := rfl
@[simp] theorem State.setRng_slot (r : Rng) (j : Fin 16) :
    (s.setRng r).slot j = s.slot j := rfl
@[simp] theorem State.setRng_cell (r : Rng) (d : Fin 2048) :
    (s.setRng r).cell d = s.cell d := rfl
@[simp] theorem State.setRng_keyPressed (r : Rng) (j : Fin 16) :
    (s.setRng r).keyPressed j = s.keyPressed j := rfl
@[simp] theorem State.setDt_reg (b : Byte) (y : Fin 16) :
    (s.setDt b).reg y = s.reg y := rfl
@[simp] theorem State.setDt_memRead (b : Byte) (q : Nat) :
    (s.setDt b).memRead q = s.memRead q := rfl
@[simp] theorem State.setDt_slot (b : Byte) (j : Fin 16) :
    (s.setDt b).slot j = s.slot j := rfl
@[simp] theorem State.setDt_cell (b : Byte) (d : Fin 2048) :
    (s.setDt b).cell d = s.cell d := rfl
@[simp] theorem State.setDt_keyPressed (b : Byte) (j : Fin 16) :
    (s.setDt b).keyPressed j = s.keyPressed j := rfl
@[simp] theorem State.setSt_reg (b : Byte) (y : Fin 16) :
    (s.setSt b).reg y = s.reg y := rfl
@[simp] theorem State.setSt_memRead (b : Byte) (q : Nat) :
    (s.setSt b).memRead q = s.memRead q := rfl
@[simp] theorem State.setSt_slot (b : Byte) (j : Fin 16) :
    (s.setSt b).slot j = s.slot j := rfl
@[simp] theorem State.setSt_cell (b : Byte) (d : Fin 2048) :
    (s.setSt b).cell d = s.cell d := rfl
@[simp] theorem State.setSt_keyPressed (b : Byte) (j : Fin 16) :
    (s.setSt b).keyPressed j = s.keyPressed j := rfl
@[simp] theorem State.timerStep_reg (y : Fin 16) :
    (s.timerStep).reg y = s.reg y := rfl
@[simp] theorem State.timerStep_memRead (q : Nat) :
    (s.timerStep).memRead q = s.memRead q := rfl
@[simp] theorem State.timerStep_slot (j : Fin 16) :
    (s.timerStep).slot j = s.slot j := rfl
@[simp] theorem State.timerStep_cell (d : Fin 2048) :
    (s.timerStep).cell d = s.cell d := rfl
@[simp] theorem State.timerStep_keyPressed (j : Fin 16) :
    (s.timerStep).keyPressed j = s.keyPressed j := rfl
@[simp] theorem State.setPc_reg (w : Word) (y : Fin 16) :
    (s.setPc w).reg y = s.reg y := rfl
@[simp] theorem State.setPc_memRead (w : Word) (q : Nat) :
    (s.setPc w).memRead q = s.memRead q := rfl
@[simp] theorem State.setPc_slot (w : Word) (j : Fin 16) :
    (s.setPc w).slot j = s.slot j := rfl
@[simp] theorem State.setPc_cell (w : Word) (d : Fin 2048) :
    (s.setPc w).cell d = s.cell d := rfl
@[simp] theorem State.setPc_keyPressed (w : Word) (j : Fin 16) :
    (s.setPc w).keyPressed j = s.keyPressed j := rfl
@[simp] theorem State.setFsm_reg (f : FsmState) (y : Fin 16) :
    (s.setFsm f).reg y = s.reg y := rfl
@[simp] theorem State.setFsm_memRead (f : FsmState) (q : Nat) :
    (s.setFsm f).memRead q = s.memRead q := rfl
@[simp] theorem State.setFsm_slot (f : FsmState) (j : Fin 16) :
    (s.setFsm f).slot j = s.slot j := rfl
@[simp] theorem State.setFsm_cell (f : FsmState) (d : Fin 2048) :
    (s.setFsm f).cell d = s.cell d := rfl
@[simp] theorem State.setFsm_keyPressed (f : FsmState) (j : Fin 16) :
    (s.setFsm f).keyPressed j = s.keyPressed j := rfl
@[simp] theorem State.raiseFault_reg (c : FaultCode) (n : Nat) (y : Fin 16) :
    (s.raiseFault c n).reg y = s.reg y := rfl
@[simp] theorem State.raiseFault_memRead (c : FaultCode) (n : Nat) (q : Nat) :
    (s.raiseFault c n).memRead q = s.memRead q := rfl
@[simp] theorem State.raiseFault_slot (c : FaultCode) (n : Nat) (j : Fin 16) :
    (s.raiseFault c n).slot j = s.slot j := rfl
@[simp] theorem State.raiseFault_cell (c : FaultCode) (n : Nat) (d : Fin 2048) :
    (s.raiseFault c n).cell d = s.cell d := rfl
@[simp] theorem State.raiseFault_keyPressed (c : FaultCode) (n : Nat) (j : Fin 16) :
    (s.raiseFault c n).keyPressed j = s.keyPressed j := rfl
@[simp] theorem State.markUnknown_reg (op : Word) (y : Fin 16) :
    (s.markUnknown op).reg y = s.reg y := rfl
@[simp] theorem State.markUnknown_memRead (op : Word) (q : Nat) :
    (s.markUnknown op).memRead q = s.memRead q := rfl
@[simp] theorem State.markUnknown_slot (op : Word) (j : Fin 16) :
    (s.markUnknown op).slot j = s.slot j := rfl
@[simp] theorem State.markUnknown_cell (op : Word) (d : Fin 2048) :
    (s.markUnknown op).cell d = s.cell d := rfl
@[simp] theorem State.markUnknown_keyPressed (op : Word) (j : Fin 16) :
    (s.markUnknown op).keyPressed j = s.keyPressed j := rfl
@[simp] theorem State.deassertStrobes_reg (y : Fin 16) :
    (s.deassertStrobes).reg y = s.reg y := rfl
@[simp] theorem State.deassertStrobes_memRead (q : Nat) :
    (s.deassertStrobes).memRead q = s.memRead q := rfl
@[simp] theorem State.deassertStrobes_slot (j : Fin 16) :
    (s.deassertStrobes).slot j = s.slot j := rfl
@[simp] theorem State.deassertStrobes_cell (d : Fin 2048) :
    (s.deassertStrobes).cell d = s.cell d := rfl
@[simp] theorem State.deassertStrobes_keyPressed (j : Fin 16) :
    (s.deassertStrobes).keyPressed j = s.keyPressed j := rfl
@[simp] theorem State.loadRegs_memRead (x : Fin 16) (q : Nat) :
    (s.loadRegs x).memRead q = s.memRead q := rfl
@[simp] theorem State.loadRegs_slot (x : Fin 16) (j : Fin 16) :
    (s.loadRegs x).slot j = s.slot j := rfl
@[simp] theorem State.loadRegs_cell (x : Fin 16) (d : Fin 2048) :
    (s.loadRegs x).cell d = s.cell d := rfl
@[simp] theorem State.loadRegs_keyPressed (x : Fin 16) (j : Fin 16) :
    (s.loadRegs x).keyPressed j = s.keyPressed j := rfl
@[simp] theorem State.setKey_reg (k : Fin 16) (b : Byte) (y : Fin 16) :
    (s.setKey k b).reg y = s.reg y := rfl
@[simp] theorem State.setKey_memRead (k : Fin 16) (b : Byte) (q : Nat) :
    (s.setKey k b).memRead q = s.memRead q := rfl
@[simp] theorem State.setKey_slot (k : Fin 16) (b : Byte) (j : Fin 16) :
    (s.setKey k b).slot j = s.slot j := rfl
@[simp] theorem State.setKey_cell (k : Fin 16) (b : Byte) (d : Fin 2048) :
    (s.setKey k b).cell d = s.cell d := rfl

end Sys2Proof.Machine
end

