-- ==== Sys2Proof/Laws/Memory.lean ====
section
/-! SUPPORT. Memory: a read after a write (R62, R63), and the canonical form, which every memory operation keeps. -/

namespace Sys2Proof.Machine

theorem Memory.lookup_cell (c d : Nat) (e : Byte) (m : Memory) :
    List.lookup c ((d, e) :: m) = if c = d then some e else List.lookup c m := by
  by_cases h : c = d
  · simp [h]
  · simp [List.lookup, beq_false_of_ne h, h]

theorem Memory.lookup_insert (a : Nat) (b : Byte) (m : Memory) (c : Nat) :
    List.lookup c (Memory.insert a b m) = if c = a then some b else List.lookup c m := by
  induction m with
  | nil => simp [Memory.insert, Memory.lookup_cell]
  | cons d rest ih =>
    obtain ⟨d, e⟩ := d
    unfold Memory.insert
    split
    · rw [Memory.lookup_cell]
    · split
      · rename_i _ hd
        simp only at hd
        subst hd
        simp only [Memory.lookup_cell]
        split <;> rfl
      · rename_i _ hd
        simp only at hd
        simp only [Memory.lookup_cell, ih]
        by_cases hc : c = d
        · subst hc; simp [Ne.symm hd]
        · simp [hc]

theorem Memory.lookup_drop (a : Nat) (m : Memory) (c : Nat) :
    List.lookup c (m.filter fun d => d.1 ≠ a) = if c = a then none else List.lookup c m := by
  induction m with
  | nil => simp
  | cons d rest ih =>
    obtain ⟨d, e⟩ := d
    by_cases hd : d = a
    · subst hd
      rw [List.filter_cons_of_neg (by simp), ih, Memory.lookup_cell]
      split <;> rfl
    · rw [List.filter_cons_of_pos (by simpa using hd), Memory.lookup_cell, Memory.lookup_cell, ih]
      by_cases hc : c = d
      · subst hc; simp [hd]
      · simp [hc]

/-- A read after a write: the byte written at its address, the old byte everywhere else (R63). -/
theorem Memory.read_write (m : Memory) (a c : Nat) (b : Byte) :
    Memory.read (Memory.write m a b) c = if c = a then b else Memory.read m c := by
  unfold Memory.read Memory.write
  split
  · rename_i hb
    rw [Memory.lookup_drop]
    by_cases h : c = a <;> simp [h, hb]
  · rw [Memory.lookup_insert]
    by_cases h : c = a <;> simp [h]

theorem Memory.mem_insert {a : Nat} {b : Byte} {m : Memory} {c : Host.Cell} (h : c ∈ Memory.insert a b m) :
    c = (a, b) ∨ c ∈ m := by
  induction m with
  | nil => simpa [Memory.insert] using h
  | cons d rest ih =>
    unfold Memory.insert at h
    split at h
    · simpa using h
    · split at h
      · simp only [List.mem_cons] at h ⊢; tauto
      · simp only [List.mem_cons] at h ⊢
        rcases h with h | h
        · exact .inr (.inl h)
        · rcases ih h with h | h
          · exact .inl h
          · exact .inr (.inr h)

theorem Memory.insert_rises {m : Memory} (a : Nat) (b : Byte) (h : m.Pairwise fun c d => c.1 < d.1) :
    (Memory.insert a b m).Pairwise fun c d => c.1 < d.1 := by
  induction m with
  | nil => simp [Memory.insert]
  | cons d rest ih =>
    rw [List.pairwise_cons] at h
    unfold Memory.insert
    split
    · rename_i had
      refine List.pairwise_cons.2 ⟨fun e he => ?_, List.pairwise_cons.2 h⟩
      rcases List.mem_cons.1 he with rfl | he
      · exact had
      · exact had.trans (h.1 e he)
    · split
      · rename_i had
        exact List.pairwise_cons.2 ⟨fun e he => by simpa [had] using h.1 e he, h.2⟩
      · rename_i h1 h2
        refine List.pairwise_cons.2 ⟨fun e he => ?_, ih h.2⟩
        rcases Memory.mem_insert he with rfl | he
        · show d.1 < a
          omega
        · exact h.1 e he

/-- A write inside the address space keeps the canonical form. -/
theorem Memory.write_wf {m : Memory} {a : Nat} (b : Byte) (ha : a ≤ 0xFFF) (h : Memory.wf m) :
    Memory.wf (Memory.write m a b) := by
  unfold Memory.write
  split
  · exact ⟨h.1.filter _, fun c hc => h.2 c (List.mem_filter.1 hc).1⟩
  · rename_i hb
    refine ⟨Memory.insert_rises a b h.1, fun c hc => ?_⟩
    rcases Memory.mem_insert hc with rfl | hc
    · exact ⟨ha, hb⟩
    · exact h.2 c hc

theorem State.memRead_memWrite (s : State) (a c : Nat) (b : Byte) :
    (s.memWrite a b).memRead c = if c = a ∧ a ≤ 0xFFF then b else s.memRead c := by
  unfold State.memRead
  rw [State.memWrite_mem]
  by_cases ha : a ≤ 0xFFF
  · simp [ha, Memory.read_write]
  · simp [ha]

theorem State.memWrite_wf {s : State} (a : Nat) (b : Byte) (h : Memory.wf s.mem) : Memory.wf (s.memWrite a b).mem := by
  rw [State.memWrite_mem]
  split
  · exact Memory.write_wf b ‹_› h
  · exact h

/-! `memWriteBytes` writes MEM and nothing else. -/

theorem State.memWriteBytes_eq (s : State) (a : Nat) (bs : List Byte) :
    s.memWriteBytes a bs = { s with mem := (s.memWriteBytes a bs).mem } := by
  induction bs generalizing s a with
  | nil => rfl
  | cons b bs ih =>
    unfold State.memWriteBytes
    rw [ih]
    rfl

@[simp] theorem State.memWriteBytes_v (s : State) (a : Nat) (bs : List Byte) :
    (s.memWriteBytes a bs).v = s.v := by rw [State.memWriteBytes_eq]
@[simp] theorem State.memWriteBytes_i (s : State) (a : Nat) (bs : List Byte) :
    (s.memWriteBytes a bs).i = s.i := by rw [State.memWriteBytes_eq]
@[simp] theorem State.memWriteBytes_pc (s : State) (a : Nat) (bs : List Byte) :
    (s.memWriteBytes a bs).pc = s.pc := by rw [State.memWriteBytes_eq]
@[simp] theorem State.memWriteBytes_stack (s : State) (a : Nat) (bs : List Byte) :
    (s.memWriteBytes a bs).stack = s.stack := by rw [State.memWriteBytes_eq]
@[simp] theorem State.memWriteBytes_sp (s : State) (a : Nat) (bs : List Byte) :
    (s.memWriteBytes a bs).sp = s.sp := by rw [State.memWriteBytes_eq]
@[simp] theorem State.memWriteBytes_dt (s : State) (a : Nat) (bs : List Byte) :
    (s.memWriteBytes a bs).dt = s.dt := by rw [State.memWriteBytes_eq]
@[simp] theorem State.memWriteBytes_st (s : State) (a : Nat) (bs : List Byte) :
    (s.memWriteBytes a bs).st = s.st := by rw [State.memWriteBytes_eq]
@[simp] theorem State.memWriteBytes_keys (s : State) (a : Nat) (bs : List Byte) :
    (s.memWriteBytes a bs).keys = s.keys := by rw [State.memWriteBytes_eq]
@[simp] theorem State.memWriteBytes_fb (s : State) (a : Nat) (bs : List Byte) :
    (s.memWriteBytes a bs).fb = s.fb := by rw [State.memWriteBytes_eq]
@[simp] theorem State.memWriteBytes_rng (s : State) (a : Nat) (bs : List Byte) :
    (s.memWriteBytes a bs).rng = s.rng := by rw [State.memWriteBytes_eq]
@[simp] theorem State.memWriteBytes_fsm (s : State) (a : Nat) (bs : List Byte) :
    (s.memWriteBytes a bs).fsm = s.fsm := by rw [State.memWriteBytes_eq]
@[simp] theorem State.memWriteBytes_faultCode (s : State) (a : Nat) (bs : List Byte) :
    (s.memWriteBytes a bs).faultCode = s.faultCode := by rw [State.memWriteBytes_eq]
@[simp] theorem State.memWriteBytes_faultInfo (s : State) (a : Nat) (bs : List Byte) :
    (s.memWriteBytes a bs).faultInfo = s.faultInfo := by rw [State.memWriteBytes_eq]
@[simp] theorem State.memWriteBytes_unkSeen (s : State) (a : Nat) (bs : List Byte) :
    (s.memWriteBytes a bs).unkSeen = s.unkSeen := by rw [State.memWriteBytes_eq]
@[simp] theorem State.memWriteBytes_lastUnknown (s : State) (a : Nat) (bs : List Byte) :
    (s.memWriteBytes a bs).lastUnknown = s.lastUnknown := by rw [State.memWriteBytes_eq]
@[simp] theorem State.memWriteBytes_beep (s : State) (a : Nat) (bs : List Byte) :
    (s.memWriteBytes a bs).beep = s.beep := by rw [State.memWriteBytes_eq]
@[simp] theorem State.memWriteBytes_unknownStrobe (s : State) (a : Nat) (bs : List Byte) :
    (s.memWriteBytes a bs).unknownStrobe = s.unknownStrobe := by rw [State.memWriteBytes_eq]

/-! Reading a register, slot, cell or key after `memWriteBytes`. -/

@[simp] theorem State.memWriteBytes_reg (s : State) (a : Nat) (bs : List Byte) (y : Fin 16) :
    (s.memWriteBytes a bs).reg y = s.reg y := State.reg_congr (by simp) y
@[simp] theorem State.memWriteBytes_slot (s : State) (a : Nat) (bs : List Byte) (j : Fin 16) :
    (s.memWriteBytes a bs).slot j = s.slot j := State.slot_congr (by simp) j
@[simp] theorem State.memWriteBytes_cell (s : State) (a : Nat) (bs : List Byte) (d : Fin 2048) :
    (s.memWriteBytes a bs).cell d = s.cell d := State.cell_congr (by simp) d
@[simp] theorem State.memWriteBytes_keyPressed (s : State) (a : Nat) (bs : List Byte) (j : Fin 16) :
    (s.memWriteBytes a bs).keyPressed j = s.keyPressed j := State.keyPressed_congr (by simp) j

theorem State.memWriteBytes_wf {s : State} (a : Nat) (bs : List Byte) (h : Memory.wf s.mem) :
    Memory.wf (s.memWriteBytes a bs).mem := by
  induction bs generalizing s a with
  | nil => exact h
  | cons b bs ih => exact ih (a + 1) (State.memWrite_wf a b h)

/-- A byte outside the stored range is as it was. -/
theorem State.memRead_memWriteBytes_outside (s : State) (a : Nat) (bs : List Byte) (c : Nat)
    (h : c < a ∨ a + bs.length ≤ c) : (s.memWriteBytes a bs).memRead c = s.memRead c := by
  induction bs generalizing s a with
  | nil => rfl
  | cons b bs ih =>
    simp only [List.length_cons] at h
    unfold State.memWriteBytes
    rw [ih _ _ (by omega), State.memRead_memWrite, if_neg (by omega)]

/-- The byte `k` of the list stands at `a + k` after the store, when the range fits the memory (R63). -/
theorem State.memRead_memWriteBytes_inside (s : State) (a : Nat) (bs : List Byte) (k : Nat) (hk : k < bs.length)
    (h : a + bs.length ≤ 0x1000) : (s.memWriteBytes a bs).memRead (a + k) = bs[k] := by
  induction bs generalizing s a k with
  | nil => simp at hk
  | cons b bs ih =>
    simp only [List.length_cons] at h hk
    unfold State.memWriteBytes
    cases k with
    | zero => rw [State.memRead_memWriteBytes_outside _ _ _ _ (by omega), State.memRead_memWrite, if_pos (by omega)]; rfl
    | succ k =>
      have := ih (s.memWrite a b) (a + 1) k (by omega) (by omega)
      simpa [Nat.add_assoc, Nat.add_comm 1 k] using this

end Sys2Proof.Machine
end

