-- ==== Sys2Proof/Laws/Cycle.lean ====
section
/-! SUPPORT. The end of a cycle, the operand forms and the whole cycle: for each shared operation, once, everything it can
do. -/

namespace Sys2Proof.Machine

/-! ### Timers and the advance -/

/-- R31, R32: down by one, floor 0. -/
theorem countDown_toNat (b : Byte) : (countDown b).toNat = b.toNat - 1 := by
  unfold countDown
  split
  · have := b.isLt
    rw [BitVec.toNat_sub]
    have h1 : (1 : Byte).toNat = 1 := rfl
    omega
  · omega

theorem Advance.newPc_next (pc : Word) : (Advance.newPc .next pc).toNat = (pc.toNat + 2) % 65536 := by
  simp [Advance.newPc, BitVec.toNat_add]

theorem Advance.newPc_skip (c : Bool) (pc : Word) :
    (Advance.newPc (.skip c) pc).toNat = (pc.toNat + if c then 4 else 2) % 65536 := by
  cases c <;> simp [Advance.newPc, BitVec.toNat_add]

theorem Advance.newPc_jump (target : Nat) (pc : Word) : (Advance.newPc (.jump target) pc).toNat = target % 65536 := by
  simp [Advance.newPc]

theorem Advance.newPc_wait (pc : Word) : Advance.newPc .wait pc = pc := rfl

/-! ### `finish` writes pc, DT, ST, FSM_STATE and the beep strobe, and nothing else (R107) -/

@[simp] theorem State.finish_mem (s : State) (a : Advance) : (s.finish a).mem = s.mem := by
  unfold State.finish; split <;> rfl
@[simp] theorem State.finish_v (s : State) (a : Advance) : (s.finish a).v = s.v := by
  unfold State.finish; split <;> rfl
@[simp] theorem State.finish_i (s : State) (a : Advance) : (s.finish a).i = s.i := by
  unfold State.finish; split <;> rfl
@[simp] theorem State.finish_stack (s : State) (a : Advance) : (s.finish a).stack = s.stack := by
  unfold State.finish; split <;> rfl
@[simp] theorem State.finish_sp (s : State) (a : Advance) : (s.finish a).sp = s.sp := by
  unfold State.finish; split <;> rfl
@[simp] theorem State.finish_keys (s : State) (a : Advance) : (s.finish a).keys = s.keys := by
  unfold State.finish; split <;> rfl
@[simp] theorem State.finish_fb (s : State) (a : Advance) : (s.finish a).fb = s.fb := by
  unfold State.finish; split <;> rfl
@[simp] theorem State.finish_rng (s : State) (a : Advance) : (s.finish a).rng = s.rng := by
  unfold State.finish; split <;> rfl
@[simp] theorem State.finish_faultCode (s : State) (a : Advance) : (s.finish a).faultCode = s.faultCode := by
  unfold State.finish; split <;> rfl
@[simp] theorem State.finish_faultInfo (s : State) (a : Advance) : (s.finish a).faultInfo = s.faultInfo := by
  unfold State.finish; split <;> rfl
@[simp] theorem State.finish_unkSeen (s : State) (a : Advance) : (s.finish a).unkSeen = s.unkSeen := by
  unfold State.finish; split <;> rfl
@[simp] theorem State.finish_lastUnknown (s : State) (a : Advance) : (s.finish a).lastUnknown = s.lastUnknown := by
  unfold State.finish; split <;> rfl
@[simp] theorem State.finish_unknownStrobe (s : State) (a : Advance) : (s.finish a).unknownStrobe = s.unknownStrobe := by
  unfold State.finish; split <;> rfl

@[simp] theorem State.finish_pc (s : State) (a : Advance) : (s.finish a).pc = a.newPc s.pc := by
  unfold State.finish; split <;> rfl
@[simp] theorem State.finish_fsm (s : State) (a : Advance) : (s.finish a).fsm = .ready := rfl
@[simp] theorem State.finish_dt (s : State) (a : Advance) :
    (s.finish a).dt = if a = .wait then s.dt else countDown s.dt := by
  unfold State.finish; split <;> rfl
@[simp] theorem State.finish_st (s : State) (a : Advance) :
    (s.finish a).st = if a = .wait then s.st else countDown s.st := by
  unfold State.finish; split <;> rfl
@[simp] theorem State.finish_beep (s : State) (a : Advance) :
    (s.finish a).beep = if a = .wait then s.beep else if 0 < s.st.toNat then true else s.beep := by
  unfold State.finish; split <;> rfl

@[simp] theorem State.finish_reg (s : State) (a : Advance) (x : Fin 16) : (s.finish a).reg x = s.reg x :=
  State.reg_congr (by simp) x
@[simp] theorem State.finish_memRead (s : State) (a : Advance) (n : Nat) : (s.finish a).memRead n = s.memRead n :=
  State.memRead_congr (by simp) n
@[simp] theorem State.finish_cell (s : State) (a : Advance) (c : Fin 2048) : (s.finish a).cell c = s.cell c :=
  State.cell_congr (by simp) c
@[simp] theorem State.finish_keyPressed (s : State) (a : Advance) (k : Fin 16) :
    (s.finish a).keyPressed k = s.keyPressed k := State.keyPressed_congr (by simp) k
@[simp] theorem State.finish_slot (s : State) (a : Advance) (j : Fin 16) : (s.finish a).slot j = s.slot j :=
  State.slot_congr (by simp) j

/-! ### Operand forms -/

/-- R180: the access runs when every byte of it lies in memory, or there is none. -/
theorem withDataRange_of_fits {count : Nat} {s : State} (body : Result) (h : count = 0 ∨ s.i.toNat + count ≤ 0x1000) :
    withDataRange count s body = body := by
  unfold withDataRange
  rw [if_neg (by omega)]

/-- R180: the access faults, and nothing is accessed, when a byte of it lies past 0xFFF. -/
theorem withDataRange_of_exceeds {count : Nat} {s : State} (body : Result) (h0 : 0 < count)
    (h : 0x1000 < s.i.toNat + count) :
    withDataRange count s body = faultCycle .dataBounds (max s.i.toNat 0x1000) s := by
  unfold withDataRange
  rw [if_pos (by omega)]

/-- R180: one of the two. -/
theorem withDataRange_cases (count : Nat) (s : State) (body : Result) :
    ((count = 0 ∨ s.i.toNat + count ≤ 0x1000) ∧ withDataRange count s body = body) ∨
    (0 < count ∧ 0x1000 < s.i.toNat + count ∧
      withDataRange count s body = faultCycle .dataBounds (max s.i.toNat 0x1000) s) := by
  by_cases h : count = 0 ∨ s.i.toNat + count ≤ 0x1000
  · exact .inl ⟨h, withDataRange_of_fits body h⟩
  · exact .inr ⟨by omega, by omega, withDataRange_of_exceeds body (by omega) (by omega)⟩

/-- R220: the key index is in range. -/
theorem withKeyIndex_of_lt {x : Fin 16} {s : State} (body : Fin 16 → Result) (h : (s.reg x).toNat < 16) :
    withKeyIndex x s body = body ⟨(s.reg x).toNat, h⟩ := by
  unfold withKeyIndex
  rw [dif_pos h]

/-- R220: the key index is out of range. -/
theorem withKeyIndex_of_ge {x : Fin 16} {s : State} (body : Fin 16 → Result) (h : 16 ≤ (s.reg x).toNat) :
    withKeyIndex x s body = faultCycle .keyIndex (s.reg x).toNat s := by
  unfold withKeyIndex
  rw [dif_neg (by omega)]

/-- R224: the scan stops at the lowest pressed key. -/
theorem State.firstPressed_some {s : State} {k : Fin 16} :
    s.firstPressed = some k ↔ s.keyPressed k = true ∧ ∀ j < k, s.keyPressed j = false := by
  unfold State.firstPressed
  constructor
  · intro h
    refine ⟨by simpa using List.find?_some h, fun j hj => ?_⟩
    obtain ⟨_, pre, post, hl, hn⟩ := List.find?_eq_some_iff_append.1 h
    have hmem : j ∈ List.finRange 16 := List.mem_finRange j
    have hsorted : (List.finRange 16).Pairwise (· < ·) := by decide
    rw [hl] at hmem hsorted
    rw [List.pairwise_append] at hsorted
    rcases List.mem_append.1 hmem with hj' | hj'
    · simpa using hn j hj'
    · rcases List.mem_cons.1 hj' with rfl | hj'
      · exact absurd hj (lt_irrefl _)
      · exact absurd ((List.pairwise_cons.1 hsorted.2.1).1 j hj') (not_lt.2 hj.le)
  · rintro ⟨hk, hlow⟩
    cases hf : (List.finRange 16).find? fun k => s.keyPressed k with
    | none => exact absurd hk (by simpa using List.find?_eq_none.1 hf k (List.mem_finRange k))
    | some m =>
      have hm : s.keyPressed m = true := by simpa using List.find?_some hf
      obtain ⟨_, pre, post, hl, hn⟩ := List.find?_eq_some_iff_append.1 hf
      rcases lt_trichotomy m k with h | h | h
      · simp [hlow m h] at hm
      · rw [h]
      · have hmem : k ∈ List.finRange 16 := List.mem_finRange k
        have hsorted : (List.finRange 16).Pairwise (· < ·) := by decide
        rw [hl] at hmem hsorted
        rw [List.pairwise_append] at hsorted
        rcases List.mem_append.1 hmem with hk' | hk'
        · simpa [hk] using hn k hk'
        · rcases List.mem_cons.1 hk' with rfl | hk'
          · exact absurd h (lt_irrefl _)
          · exact absurd ((List.pairwise_cons.1 hsorted.2.1).1 k hk') (not_lt.2 h.le)

/-- R224: no key is pressed. -/
theorem State.firstPressed_none {s : State} : s.firstPressed = none ↔ ∀ k, s.keyPressed k = false := by
  unfold State.firstPressed
  simp

/-! ### The whole cycle -/

/-- Everything a step can do, in the order of R107 and R245: nothing in a halted block, a fetch fault, the unknown-opcode
cycle, or the execution of the decoded instruction. -/
theorem step_cases (s : State) :
    (s.fsm = .fault ∧ step s = .next s.deassertStrobes) ∨
    (s.fsm ≠ .fault ∧ 0xFFF ≤ s.pc.toNat ∧
      step s = .next (s.deassertStrobes.raiseFault .fetchBounds (max s.pc.toNat 0x1000))) ∨
    (s.fsm ≠ .fault ∧ s.pc.toNat < 0xFFF ∧ ∃ op, decode s.fetchWord = .unknown op ∧
      step s = .next (unknownOpcodeWith Params.unkRunsTimers op s.deassertStrobes)) ∨
    (s.fsm ≠ .fault ∧ s.pc.toNat < 0xFFF ∧ ∃ i, decode s.fetchWord = .instr i ∧ step s = exec i s.deassertStrobes) := by
  unfold step cycleWith
  by_cases hf : s.fsm = .fault
  · exact .inl ⟨hf, by rw [if_pos hf]⟩
  · rw [if_neg hf]
    by_cases hp : 0xFFF < s.pc.toNat + 1
    · exact .inr (.inl ⟨hf, by omega, by rw [if_pos hp]; rfl⟩)
    · rw [if_neg hp]
      cases hd : decode s.fetchWord with
      | instr i => exact .inr (.inr (.inr ⟨hf, by omega, i, rfl, rfl⟩))
      | unknown op => exact .inr (.inr (.inl ⟨hf, by omega, op, rfl, rfl⟩))

/-- A run of one more step of any machine, when the step answers a next state. -/
theorem core_run_of_next (M : Host.Core) {s t : M.State} (k : Nat) (h : M.step s = .next t) :
    Host.Core.run M (k + 1) s = Host.Core.run M k t := by
  simp only [Host.Core.run, h]

/-- A run of one more cycle, when the cycle answers a next state. -/
theorem run_of_next {s t : State} (k : Nat) (h : step s = .next t) :
    Host.Core.run Sys2Proof.core (k + 1) s = Host.Core.run Sys2Proof.core k t :=
  core_run_of_next Sys2Proof.core k h

/-- The fetch does not read the strobes. -/
@[simp] theorem State.fetchWord_deassertStrobes (s : State) : s.deassertStrobes.fetchWord = s.fetchWord := rfl

end Sys2Proof.Machine
end

