-- ==== Sys2Proof/Laws/Display.lean ====
section
/-! SUPPORT. Drawing: what one pixel does to a cell and to VF, and that a pixel, a row and a sprite write V[F] and FB and
nothing else (R202). -/

namespace Sys2Proof.Machine

/-- R34: distinct cells are distinct bits. -/
theorem State.cell_flipCell (s : State) (t c : Fin 2048) :
    (s.flipCell t).cell c = (s.cell c ^^ decide (c = t)) := by
  simp only [State.cell, State.flipCell]
  rw [Vector.getElem_set]
  by_cases hrow : t.val / 64 = c.val / 64
  · simp only [hrow, ↓reduceIte, BitVec.getLsbD_xor, BitVec.getLsbD_twoPow]
    congr 1
    have h64 : t.val % 64 < 64 := Nat.mod_lt _ (by omega)
    simp only [h64, decide_true, Bool.true_and, Fin.ext_iff, decide_eq_decide]
    omega
  · simp only [hrow, ↓reduceIte, Fin.ext_iff]
    rw [decide_eq_false (by omega)]
    simp

@[simp] theorem State.cell_clearScreen (s : State) (c : Fin 2048) : s.clearScreen.cell c = false := by
  simp [State.cell, State.clearScreen]

/-- R202: a pixel flips its target cell, when that is on screen, and no other cell. -/
theorem State.cell_drawPixel (s : State) (t : Nat) (c : Fin 2048) :
    (s.drawPixel t).cell c = (s.cell c ^^ decide (c.val = t)) := by
  unfold State.drawPixel
  split
  · rw [State.cell_flipCell]
    congr 1
    · split <;> rfl
    · simp [Fin.ext_iff]
  · have := c.isLt
    rw [decide_eq_false (by omega)]
    simp

/-- R202: a pixel writes VF, to 1, exactly when its target is on screen and already set. -/
theorem State.reg_drawPixel (s : State) (t : Nat) (x : Fin 16) :
    (s.drawPixel t).reg x = if x = flagReg ∧ ∃ h : t < 2048, s.cell ⟨t, h⟩ = true then 1 else s.reg x := by
  unfold State.drawPixel
  split
  · rename_i h
    rw [State.flipCell_reg]
    by_cases hc : s.cell ⟨t, h⟩ = true
    · rw [if_pos hc, State.reg_setReg]
      by_cases hx : x = flagReg <;> simp [hx, h, hc]
    · rw [if_neg hc, if_neg (by simp [h, hc])]
  · rename_i h
    rw [if_neg (by simp [h])]

/-! A pixel, a row and a sprite leave every other field as it was. -/

/-- A property that every pixel keeps is kept by a row. -/
theorem State.drawRow_keeps {P : State → Prop} (hp : ∀ u t, P u → P (u.drawPixel t)) (s : State) (x0 y : Nat) (b : Byte)
    (h : P s) : P (s.drawRow x0 y b) := by
  unfold State.drawRow
  generalize List.range 8 = cols
  induction cols generalizing s with
  | nil => exact h
  | cons c cs ih =>
    rw [List.foldl_cons]
    split
    · exact ih _ (hp _ _ h)
    · exact ih _ h

/-- A property that every pixel keeps is kept by a sprite. -/
theorem State.drawSprite_keeps {P : State → Prop} (hp : ∀ u t, P u → P (u.drawPixel t)) (s : State) (x0 y0 n : Nat)
    (h : P s) : P (s.drawSprite x0 y0 n) := by
  unfold State.drawSprite
  generalize List.range n = rows
  induction rows generalizing s with
  | nil => exact h
  | cons r rs ih => exact ih _ (State.drawRow_keeps hp _ _ _ _ h)

@[simp] theorem State.drawPixel_mem (s : State) (t : Nat) :
    (s.drawPixel t).mem = s.mem := by unfold State.drawPixel; split <;> [split <;> rfl; rfl]
@[simp] theorem State.drawPixel_i (s : State) (t : Nat) :
    (s.drawPixel t).i = s.i := by unfold State.drawPixel; split <;> [split <;> rfl; rfl]
@[simp] theorem State.drawPixel_pc (s : State) (t : Nat) :
    (s.drawPixel t).pc = s.pc := by unfold State.drawPixel; split <;> [split <;> rfl; rfl]
@[simp] theorem State.drawPixel_stack (s : State) (t : Nat) :
    (s.drawPixel t).stack = s.stack := by unfold State.drawPixel; split <;> [split <;> rfl; rfl]
@[simp] theorem State.drawPixel_sp (s : State) (t : Nat) :
    (s.drawPixel t).sp = s.sp := by unfold State.drawPixel; split <;> [split <;> rfl; rfl]
@[simp] theorem State.drawPixel_dt (s : State) (t : Nat) :
    (s.drawPixel t).dt = s.dt := by unfold State.drawPixel; split <;> [split <;> rfl; rfl]
@[simp] theorem State.drawPixel_st (s : State) (t : Nat) :
    (s.drawPixel t).st = s.st := by unfold State.drawPixel; split <;> [split <;> rfl; rfl]
@[simp] theorem State.drawPixel_keys (s : State) (t : Nat) :
    (s.drawPixel t).keys = s.keys := by unfold State.drawPixel; split <;> [split <;> rfl; rfl]
@[simp] theorem State.drawPixel_rng (s : State) (t : Nat) :
    (s.drawPixel t).rng = s.rng := by unfold State.drawPixel; split <;> [split <;> rfl; rfl]
@[simp] theorem State.drawPixel_fsm (s : State) (t : Nat) :
    (s.drawPixel t).fsm = s.fsm := by unfold State.drawPixel; split <;> [split <;> rfl; rfl]
@[simp] theorem State.drawPixel_faultCode (s : State) (t : Nat) :
    (s.drawPixel t).faultCode = s.faultCode := by unfold State.drawPixel; split <;> [split <;> rfl; rfl]
@[simp] theorem State.drawPixel_faultInfo (s : State) (t : Nat) :
    (s.drawPixel t).faultInfo = s.faultInfo := by unfold State.drawPixel; split <;> [split <;> rfl; rfl]
@[simp] theorem State.drawPixel_unkSeen (s : State) (t : Nat) :
    (s.drawPixel t).unkSeen = s.unkSeen := by unfold State.drawPixel; split <;> [split <;> rfl; rfl]
@[simp] theorem State.drawPixel_lastUnknown (s : State) (t : Nat) :
    (s.drawPixel t).lastUnknown = s.lastUnknown := by unfold State.drawPixel; split <;> [split <;> rfl; rfl]
@[simp] theorem State.drawPixel_beep (s : State) (t : Nat) :
    (s.drawPixel t).beep = s.beep := by unfold State.drawPixel; split <;> [split <;> rfl; rfl]
@[simp] theorem State.drawPixel_unknownStrobe (s : State) (t : Nat) :
    (s.drawPixel t).unknownStrobe = s.unknownStrobe := by unfold State.drawPixel; split <;> [split <;> rfl; rfl]

@[simp] theorem State.drawRow_mem (s : State) (x0 y : Nat) (b : Byte) :
    (s.drawRow x0 y b).mem = s.mem := by exact State.drawRow_keeps (P := fun u => u.mem = s.mem) (fun u t h => by simpa using h) s x0 y b rfl
@[simp] theorem State.drawRow_i (s : State) (x0 y : Nat) (b : Byte) :
    (s.drawRow x0 y b).i = s.i := by exact State.drawRow_keeps (P := fun u => u.i = s.i) (fun u t h => by simpa using h) s x0 y b rfl
@[simp] theorem State.drawRow_pc (s : State) (x0 y : Nat) (b : Byte) :
    (s.drawRow x0 y b).pc = s.pc := by exact State.drawRow_keeps (P := fun u => u.pc = s.pc) (fun u t h => by simpa using h) s x0 y b rfl
@[simp] theorem State.drawRow_stack (s : State) (x0 y : Nat) (b : Byte) :
    (s.drawRow x0 y b).stack = s.stack := by exact State.drawRow_keeps (P := fun u => u.stack = s.stack) (fun u t h => by simpa using h) s x0 y b rfl
@[simp] theorem State.drawRow_sp (s : State) (x0 y : Nat) (b : Byte) :
    (s.drawRow x0 y b).sp = s.sp := by exact State.drawRow_keeps (P := fun u => u.sp = s.sp) (fun u t h => by simpa using h) s x0 y b rfl
@[simp] theorem State.drawRow_dt (s : State) (x0 y : Nat) (b : Byte) :
    (s.drawRow x0 y b).dt = s.dt := by exact State.drawRow_keeps (P := fun u => u.dt = s.dt) (fun u t h => by simpa using h) s x0 y b rfl
@[simp] theorem State.drawRow_st (s : State) (x0 y : Nat) (b : Byte) :
    (s.drawRow x0 y b).st = s.st := by exact State.drawRow_keeps (P := fun u => u.st = s.st) (fun u t h => by simpa using h) s x0 y b rfl
@[simp] theorem State.drawRow_keys (s : State) (x0 y : Nat) (b : Byte) :
    (s.drawRow x0 y b).keys = s.keys := by exact State.drawRow_keeps (P := fun u => u.keys = s.keys) (fun u t h => by simpa using h) s x0 y b rfl
@[simp] theorem State.drawRow_rng (s : State) (x0 y : Nat) (b : Byte) :
    (s.drawRow x0 y b).rng = s.rng := by exact State.drawRow_keeps (P := fun u => u.rng = s.rng) (fun u t h => by simpa using h) s x0 y b rfl
@[simp] theorem State.drawRow_fsm (s : State) (x0 y : Nat) (b : Byte) :
    (s.drawRow x0 y b).fsm = s.fsm := by exact State.drawRow_keeps (P := fun u => u.fsm = s.fsm) (fun u t h => by simpa using h) s x0 y b rfl
@[simp] theorem State.drawRow_faultCode (s : State) (x0 y : Nat) (b : Byte) :
    (s.drawRow x0 y b).faultCode = s.faultCode := by exact State.drawRow_keeps (P := fun u => u.faultCode = s.faultCode) (fun u t h => by simpa using h) s x0 y b rfl
@[simp] theorem State.drawRow_faultInfo (s : State) (x0 y : Nat) (b : Byte) :
    (s.drawRow x0 y b).faultInfo = s.faultInfo := by exact State.drawRow_keeps (P := fun u => u.faultInfo = s.faultInfo) (fun u t h => by simpa using h) s x0 y b rfl
@[simp] theorem State.drawRow_unkSeen (s : State) (x0 y : Nat) (b : Byte) :
    (s.drawRow x0 y b).unkSeen = s.unkSeen := by exact State.drawRow_keeps (P := fun u => u.unkSeen = s.unkSeen) (fun u t h => by simpa using h) s x0 y b rfl
@[simp] theorem State.drawRow_lastUnknown (s : State) (x0 y : Nat) (b : Byte) :
    (s.drawRow x0 y b).lastUnknown = s.lastUnknown := by exact State.drawRow_keeps (P := fun u => u.lastUnknown = s.lastUnknown) (fun u t h => by simpa using h) s x0 y b rfl
@[simp] theorem State.drawRow_beep (s : State) (x0 y : Nat) (b : Byte) :
    (s.drawRow x0 y b).beep = s.beep := by exact State.drawRow_keeps (P := fun u => u.beep = s.beep) (fun u t h => by simpa using h) s x0 y b rfl
@[simp] theorem State.drawRow_unknownStrobe (s : State) (x0 y : Nat) (b : Byte) :
    (s.drawRow x0 y b).unknownStrobe = s.unknownStrobe := by exact State.drawRow_keeps (P := fun u => u.unknownStrobe = s.unknownStrobe) (fun u t h => by simpa using h) s x0 y b rfl

@[simp] theorem State.drawSprite_mem (s : State) (x0 y0 n : Nat) :
    (s.drawSprite x0 y0 n).mem = s.mem := by exact State.drawSprite_keeps (P := fun u => u.mem = s.mem) (fun u t h => by simpa using h) s x0 y0 n rfl
@[simp] theorem State.drawSprite_i (s : State) (x0 y0 n : Nat) :
    (s.drawSprite x0 y0 n).i = s.i := by exact State.drawSprite_keeps (P := fun u => u.i = s.i) (fun u t h => by simpa using h) s x0 y0 n rfl
@[simp] theorem State.drawSprite_pc (s : State) (x0 y0 n : Nat) :
    (s.drawSprite x0 y0 n).pc = s.pc := by exact State.drawSprite_keeps (P := fun u => u.pc = s.pc) (fun u t h => by simpa using h) s x0 y0 n rfl
@[simp] theorem State.drawSprite_stack (s : State) (x0 y0 n : Nat) :
    (s.drawSprite x0 y0 n).stack = s.stack := by exact State.drawSprite_keeps (P := fun u => u.stack = s.stack) (fun u t h => by simpa using h) s x0 y0 n rfl
@[simp] theorem State.drawSprite_sp (s : State) (x0 y0 n : Nat) :
    (s.drawSprite x0 y0 n).sp = s.sp := by exact State.drawSprite_keeps (P := fun u => u.sp = s.sp) (fun u t h => by simpa using h) s x0 y0 n rfl
@[simp] theorem State.drawSprite_dt (s : State) (x0 y0 n : Nat) :
    (s.drawSprite x0 y0 n).dt = s.dt := by exact State.drawSprite_keeps (P := fun u => u.dt = s.dt) (fun u t h => by simpa using h) s x0 y0 n rfl
@[simp] theorem State.drawSprite_st (s : State) (x0 y0 n : Nat) :
    (s.drawSprite x0 y0 n).st = s.st := by exact State.drawSprite_keeps (P := fun u => u.st = s.st) (fun u t h => by simpa using h) s x0 y0 n rfl
@[simp] theorem State.drawSprite_keys (s : State) (x0 y0 n : Nat) :
    (s.drawSprite x0 y0 n).keys = s.keys := by exact State.drawSprite_keeps (P := fun u => u.keys = s.keys) (fun u t h => by simpa using h) s x0 y0 n rfl
@[simp] theorem State.drawSprite_rng (s : State) (x0 y0 n : Nat) :
    (s.drawSprite x0 y0 n).rng = s.rng := by exact State.drawSprite_keeps (P := fun u => u.rng = s.rng) (fun u t h => by simpa using h) s x0 y0 n rfl
@[simp] theorem State.drawSprite_fsm (s : State) (x0 y0 n : Nat) :
    (s.drawSprite x0 y0 n).fsm = s.fsm := by exact State.drawSprite_keeps (P := fun u => u.fsm = s.fsm) (fun u t h => by simpa using h) s x0 y0 n rfl
@[simp] theorem State.drawSprite_faultCode (s : State) (x0 y0 n : Nat) :
    (s.drawSprite x0 y0 n).faultCode = s.faultCode := by exact State.drawSprite_keeps (P := fun u => u.faultCode = s.faultCode) (fun u t h => by simpa using h) s x0 y0 n rfl
@[simp] theorem State.drawSprite_faultInfo (s : State) (x0 y0 n : Nat) :
    (s.drawSprite x0 y0 n).faultInfo = s.faultInfo := by exact State.drawSprite_keeps (P := fun u => u.faultInfo = s.faultInfo) (fun u t h => by simpa using h) s x0 y0 n rfl
@[simp] theorem State.drawSprite_unkSeen (s : State) (x0 y0 n : Nat) :
    (s.drawSprite x0 y0 n).unkSeen = s.unkSeen := by exact State.drawSprite_keeps (P := fun u => u.unkSeen = s.unkSeen) (fun u t h => by simpa using h) s x0 y0 n rfl
@[simp] theorem State.drawSprite_lastUnknown (s : State) (x0 y0 n : Nat) :
    (s.drawSprite x0 y0 n).lastUnknown = s.lastUnknown := by exact State.drawSprite_keeps (P := fun u => u.lastUnknown = s.lastUnknown) (fun u t h => by simpa using h) s x0 y0 n rfl
@[simp] theorem State.drawSprite_beep (s : State) (x0 y0 n : Nat) :
    (s.drawSprite x0 y0 n).beep = s.beep := by exact State.drawSprite_keeps (P := fun u => u.beep = s.beep) (fun u t h => by simpa using h) s x0 y0 n rfl
@[simp] theorem State.drawSprite_unknownStrobe (s : State) (x0 y0 n : Nat) :
    (s.drawSprite x0 y0 n).unknownStrobe = s.unknownStrobe := by exact State.drawSprite_keeps (P := fun u => u.unknownStrobe = s.unknownStrobe) (fun u t h => by simpa using h) s x0 y0 n rfl

/-- A sprite writes no register but VF (R202). -/
theorem State.reg_drawSprite (s : State) (x0 y0 n : Nat) (x : Fin 16) (hx : x ≠ flagReg) :
    (s.drawSprite x0 y0 n).reg x = s.reg x :=
  State.drawSprite_keeps (P := fun u => u.reg x = s.reg x)
    (fun u t h => by rw [State.reg_drawPixel, if_neg (by simp [hx])]; exact h) s x0 y0 n rfl

end Sys2Proof.Machine
end

