-- ==== Sys2Proof/Laws/Exec.lean ====
section
/-! SUPPORT. Everything the execution of an instruction can answer: it finishes the cycle from a state in which the
instruction's own effect has left the status, the keys and `pc` alone, or it takes the fault entry. It is never refused. -/

namespace Sys2Proof.Machine

/-- What no instruction's own effect writes: `pc`, the keys, the status registers and the strobes. -/
structure BodyKeeps (s u : State) : Prop where
  pc : u.pc = s.pc
  keys : u.keys = s.keys
  fsm : u.fsm = s.fsm
  faultCode : u.faultCode = s.faultCode
  faultInfo : u.faultInfo = s.faultInfo
  unkSeen : u.unkSeen = s.unkSeen
  lastUnknown : u.lastUnknown = s.lastUnknown
  beep : u.beep = s.beep
  unknownStrobe : u.unknownStrobe = s.unknownStrobe
  memory : Memory.wf s.mem → Memory.wf u.mem

theorem BodyKeeps.refl (s : State) : BodyKeeps s s := ⟨rfl, rfl, rfl, rfl, rfl, rfl, rfl, rfl, rfl, id⟩

theorem BodyKeeps.setReg {s u : State} (h : BodyKeeps s u) (x : Fin 16) (b : Byte) : BodyKeeps s (u.setReg x b) :=
  ⟨h.pc, h.keys, h.fsm, h.faultCode, h.faultInfo, h.unkSeen, h.lastUnknown, h.beep, h.unknownStrobe, h.memory⟩

theorem BodyKeeps.setI (s : State) (w : Word) : BodyKeeps s (s.setI w) :=
  ⟨rfl, rfl, rfl, rfl, rfl, rfl, rfl, rfl, rfl, id⟩

theorem BodyKeeps.memWriteBytes (s : State) (a : Nat) (bs : List Byte) : BodyKeeps s (s.memWriteBytes a bs) :=
  ⟨by simp, by simp, by simp, by simp, by simp, by simp, by simp, by simp, by simp, State.memWriteBytes_wf a bs⟩

theorem BodyKeeps.drawSprite {s u : State} (h : BodyKeeps s u) (x0 y0 n : Nat) :
    BodyKeeps s (u.drawSprite x0 y0 n) :=
  ⟨by simp [h.pc], by simp [h.keys], by simp [h.fsm], by simp [h.faultCode], by simp [h.faultInfo],
    by simp [h.unkSeen], by simp [h.lastUnknown], by simp [h.beep], by simp [h.unknownStrobe],
    fun hm => by rw [State.drawSprite_mem]; exact h.memory hm⟩

/-- Which instruction can fault with which code and info, and when (R242, without the fetch). -/
def ExecFaults (i : Instr) (s : State) (code : FaultCode) (info : Nat) : Prop :=
  match i with
  | .callNnn _ => code = .stackOverflow ∧ info = 16 ∧ s.sp.val = 16
  | .drwVxVyN _ _ n =>
    code = .dataBounds ∧ info = max s.i.toNat 0x1000 ∧ 0 < n.toNat ∧ 0x1000 < s.i.toNat + n.toNat
  | .ldBVx _ => code = .dataBounds ∧ info = max s.i.toNat 0x1000 ∧ 0x1000 < s.i.toNat + 3
  | .ldMemVx x => code = .dataBounds ∧ info = max s.i.toNat 0x1000 ∧ 0x1000 < s.i.toNat + (x.val + 1)
  | .ldVxMem x => code = .dataBounds ∧ info = max s.i.toNat 0x1000 ∧ 0x1000 < s.i.toNat + (x.val + 1)
  | .skpVx x => code = .keyIndex ∧ info = (s.reg x).toNat ∧ 16 ≤ (s.reg x).toNat
  | .sknpVx x => code = .keyIndex ∧ info = (s.reg x).toNat ∧ 16 ≤ (s.reg x).toNat
  | _ => False

/-- The instruction's answer is the end of the cycle from `u`, or the fault entry. -/
def ExecAnswers (i : Instr) (s : State) : Prop :=
  (∃ u a, exec i s = .next (u.finish a) ∧ BodyKeeps s u ∧ ∀ code info, ¬ ExecFaults i s code info) ∨
  (∃ code info, exec i s = .next (s.raiseFault code info) ∧ ExecFaults i s code info)

theorem execAnswers_of_finish {i : Instr} {s u : State} {a : Advance} (h : exec i s = .next (u.finish a))
    (hu : BodyKeeps s u) (hn : ∀ code info, ¬ ExecFaults i s code info) : ExecAnswers i s :=
  .inl ⟨u, a, h, hu, hn⟩

/-- One inversion lemma for all instructions. -/
theorem exec_answers (i : Instr) (s : State) : ExecAnswers i s := by
  cases i with
  | callNnn nnn =>
    by_cases h : s.sp.val < 16
    · refine .inl ⟨s.push s.pc h, .jump nnn.toNat, ?_, ⟨rfl, rfl, rfl, rfl, rfl, rfl, rfl, rfl, rfl, id⟩, ?_⟩
      · show execCallNnn nnn s = _
        unfold execCallNnn
        rw [dif_pos h]
        rfl
      · rintro _ _ ⟨-, -, h16⟩
        omega
    · refine .inr ⟨.stackOverflow, 16, ?_, rfl, rfl, by omega⟩
      show execCallNnn nnn s = _
      unfold execCallNnn
      rw [dif_neg h]
      rfl
  | ret =>
    by_cases h : 0 < s.sp.val
    · refine execAnswers_of_finish (u := s.pop) (a := .jump ((s.topSlot h).toNat + 2)) ?_
        ⟨rfl, rfl, rfl, rfl, rfl, rfl, rfl, rfl, rfl, id⟩ fun _ _ => id
      show execRet s = _
      unfold execRet
      rw [dif_pos h]
      rfl
    · refine execAnswers_of_finish (u := s) (a := .next) ?_ (.refl s) fun _ _ => id
      show execRet s = _
      unfold execRet
      rw [dif_neg h]
      rfl
  | skpVx x =>
    have he : exec (.skpVx x) s = withKeyIndex x s fun k => endCycle (.skip (s.keyPressed k)) s := rfl
    by_cases h : (s.reg x).toNat < 16
    · exact .inl ⟨s, _, he.trans (withKeyIndex_of_lt _ h), .refl s, fun _ _ hf => by have := hf.2.2; omega⟩
    · exact .inr ⟨_, _, he.trans (withKeyIndex_of_ge _ (by omega)), rfl, rfl, by omega⟩
  | sknpVx x =>
    have he : exec (.sknpVx x) s = withKeyIndex x s fun k => endCycle (.skip (!s.keyPressed k)) s := rfl
    by_cases h : (s.reg x).toNat < 16
    · exact .inl ⟨s, _, he.trans (withKeyIndex_of_lt _ h), .refl s, fun _ _ hf => by have := hf.2.2; omega⟩
    · exact .inr ⟨_, _, he.trans (withKeyIndex_of_ge _ (by omega)), rfl, rfl, by omega⟩
  | drwVxVyN x y n =>
    have he : exec (.drwVxVyN x y n) s = withDataRange n.toNat s (endCycle .next
      ((s.setReg flagReg 0).drawSprite (s.reg x).toNat (s.reg y).toNat n.toNat)) := rfl
    rcases withDataRange_cases n.toNat s (endCycle .next
      ((s.setReg flagReg 0).drawSprite (s.reg x).toNat (s.reg y).toNat n.toNat)) with ⟨h, hw⟩ | ⟨h0, h, hw⟩
    · refine .inl ⟨_, .next, he.trans hw, ((BodyKeeps.refl s).setReg _ _).drawSprite _ _ _, ?_⟩
      rintro _ _ ⟨-, -, h0, h1⟩
      omega
    · exact .inr ⟨_, _, he.trans hw, rfl, rfl, h0, h⟩
  | ldBVx x =>
    have he : exec (.ldBVx x) s =
      withDataRange 3 s (endCycle .next (s.memWriteBytes s.i.toNat (decimalDigits (s.reg x)))) := rfl
    rcases withDataRange_cases 3 s (endCycle .next (s.memWriteBytes s.i.toNat (decimalDigits (s.reg x)))) with
      ⟨h, hw⟩ | ⟨-, h, hw⟩
    · refine .inl ⟨_, .next, he.trans hw, .memWriteBytes _ _ _, ?_⟩
      rintro _ _ ⟨-, -, h1⟩
      omega
    · exact .inr ⟨_, _, he.trans hw, rfl, rfl, h⟩
  | ldMemVx x =>
    have he : exec (.ldMemVx x) s =
      withDataRange (x.val + 1) s (endCycle .next (s.memWriteBytes s.i.toNat (s.regsUpTo x))) := rfl
    rcases withDataRange_cases (x.val + 1) s (endCycle .next (s.memWriteBytes s.i.toNat (s.regsUpTo x))) with
      ⟨h, hw⟩ | ⟨-, h, hw⟩
    · refine .inl ⟨_, .next, he.trans hw, .memWriteBytes _ _ _, ?_⟩
      rintro _ _ ⟨-, -, h1⟩
      omega
    · exact .inr ⟨_, _, he.trans hw, rfl, rfl, h⟩
  | ldVxMem x =>
    have he : exec (.ldVxMem x) s = withDataRange (x.val + 1) s (endCycle .next (s.loadRegs x)) := rfl
    rcases withDataRange_cases (x.val + 1) s (endCycle .next (s.loadRegs x)) with ⟨h, hw⟩ | ⟨-, h, hw⟩
    · refine .inl ⟨s.loadRegs x, .next, he.trans hw, by constructor <;> simp, ?_⟩
      rintro _ _ ⟨-, -, h1⟩
      omega
    · exact .inr ⟨_, _, he.trans hw, rfl, rfl, h⟩
  | ldVxK x =>
    cases h : s.firstPressed with
    | some k =>
      refine execAnswers_of_finish (u := s.setReg x (BitVec.ofNat 8 k.val)) (a := .next) ?_
        ((BodyKeeps.refl s).setReg _ _) fun _ _ => id
      show execLdVxK x s = _
      unfold execLdVxK
      rw [h]
      rfl
    | none =>
      refine execAnswers_of_finish (u := s) (a := .wait) ?_ (.refl s) fun _ _ => id
      show execLdVxK x s = _
      unfold execLdVxK
      rw [h]
      rfl
  | ldFVx x =>
    refine execAnswers_of_finish (a := .next) rfl ?_ fun _ _ => id
    split
    · exact .setI _ _
    · exact .refl s
  | cls => exact execAnswers_of_finish rfl ⟨rfl, rfl, rfl, rfl, rfl, rfl, rfl, rfl, rfl, id⟩ fun _ _ => id
  | ldDtVx x => exact execAnswers_of_finish rfl ⟨rfl, rfl, rfl, rfl, rfl, rfl, rfl, rfl, rfl, id⟩ fun _ _ => id
  | ldStVx x => exact execAnswers_of_finish rfl ⟨rfl, rfl, rfl, rfl, rfl, rfl, rfl, rfl, rfl, id⟩ fun _ _ => id
  | rndVxNn x nn => exact execAnswers_of_finish rfl ⟨rfl, rfl, rfl, rfl, rfl, rfl, rfl, rfl, rfl, id⟩ fun _ _ => id
  | ldINnn nnn => exact execAnswers_of_finish rfl (.setI _ _) fun _ _ => id
  | addIVx x => exact execAnswers_of_finish rfl (.setI _ _) fun _ _ => id
  | addVxVy x y => exact execAnswers_of_finish rfl (((BodyKeeps.refl s).setReg _ _).setReg _ _) fun _ _ => id
  | subVxVy x y => exact execAnswers_of_finish rfl (((BodyKeeps.refl s).setReg _ _).setReg _ _) fun _ _ => id
  | shrVx x y => exact execAnswers_of_finish rfl (((BodyKeeps.refl s).setReg _ _).setReg _ _) fun _ _ => id
  | subnVxVy x y => exact execAnswers_of_finish rfl (((BodyKeeps.refl s).setReg _ _).setReg _ _) fun _ _ => id
  | shlVx x y => exact execAnswers_of_finish rfl (((BodyKeeps.refl s).setReg _ _).setReg _ _) fun _ _ => id
  | ldVxNn x nn => exact execAnswers_of_finish rfl ((BodyKeeps.refl s).setReg _ _) fun _ _ => id
  | addVxNn x nn => exact execAnswers_of_finish rfl ((BodyKeeps.refl s).setReg _ _) fun _ _ => id
  | ldVxVy x y => exact execAnswers_of_finish rfl ((BodyKeeps.refl s).setReg _ _) fun _ _ => id
  | orVxVy x y => exact execAnswers_of_finish rfl ((BodyKeeps.refl s).setReg _ _) fun _ _ => id
  | andVxVy x y => exact execAnswers_of_finish rfl ((BodyKeeps.refl s).setReg _ _) fun _ _ => id
  | xorVxVy x y => exact execAnswers_of_finish rfl ((BodyKeeps.refl s).setReg _ _) fun _ _ => id
  | ldVxDt x => exact execAnswers_of_finish rfl ((BodyKeeps.refl s).setReg _ _) fun _ _ => id
  | jpNnn nnn => exact execAnswers_of_finish rfl (.refl s) fun _ _ => id
  | jpV0Nnn nnn => exact execAnswers_of_finish rfl (.refl s) fun _ _ => id
  | seVxNn x nn => exact execAnswers_of_finish rfl (.refl s) fun _ _ => id
  | sneVxNn x nn => exact execAnswers_of_finish rfl (.refl s) fun _ _ => id
  | seVxVy x y => exact execAnswers_of_finish rfl (.refl s) fun _ _ => id
  | sneVxVy x y => exact execAnswers_of_finish rfl (.refl s) fun _ _ => id

end Sys2Proof.Machine
end

