-- ==== Sys2Proof/Laws/Claims.lean ====
section
/-! SUPPORT. Frames and cycle ends, the two shapes most statements about one instruction have: how `KeptBut` passes
through each operation, how a completed instruction's `CycleEnds` follows, and the flag bytes as numbers. -/

namespace Sys2Proof

open Machine

theorem keptBut_refl {c : Part → Prop} (s : State) : KeptBut c s s := by
  intro p _; cases p <;> simp [Kept]

theorem keptBut_mono {c d : Part → Prop} {s u : State} (hcd : ∀ p, c p → d p) (h : KeptBut c s u) : KeptBut d s u :=
  fun p hp => h p fun hc => hp (hcd p hc)

theorem keptBut_finish {c : Part → Prop} {s u : State} (a : Advance) (h : KeptBut c s u) :
    KeptBut c s (u.finish a) := by
  intro p hp
  have := h p hp
  cases p <;> simpa [Kept] using this

theorem keptBut_setReg {c : Part → Prop} {s u : State} (x : Fin 16) (b : Byte) (hx : c (.reg x))
    (h : KeptBut c s u) : KeptBut c s (u.setReg x b) := by
  intro p hp
  have := h p hp
  cases p with
  | reg y =>
    have : y ≠ x := by rintro rfl; exact hp hx
    simpa [Kept, State.reg_setReg, this] using h _ hp
  | _ => exact this

theorem keptBut_setI {c : Part → Prop} {s u : State} (w : Word) (hx : c .index) (h : KeptBut c s u) :
    KeptBut c s (u.setI w) := by
  intro p hp
  have := h p hp
  cases p with
  | index => exact absurd hx hp
  | _ => exact this

theorem keptBut_memWriteBytes {c : Part → Prop} {s u : State} (a : Nat) (bs : List Byte)
    (hc : ∀ k < bs.length, c (.mem (a + k))) (h : KeptBut c s u) : KeptBut c s (u.memWriteBytes a bs) := by
  intro p hp
  have := h p hp
  cases p with
  | mem n =>
    simp only [Kept] at this ⊢
    rw [State.memRead_memWriteBytes_outside, this]
    by_contra hn
    push Not at hn
    apply hp
    have := hc (n - a) (by omega)
    rwa [show a + (n - a) = n by omega] at this
  | reg x => simpa [Kept, State.reg] using this
  | stack x => simpa [Kept, State.slot] using this
  | screen x => simpa [Kept, State.cell] using this
  | _ => simpa [Kept] using this

/-- An instruction whose effect left the timers and the beep strobe as they were in `s` ends its cycle (R107). -/
theorem cycleEnds_finish {s u : State} (a : Advance) (n : Nat) (ha : a ≠ .wait) (hdt : u.dt = s.dt)
    (hst : u.st = s.st) (hb : u.beep = s.beep) (hpc : (a.newPc u.pc).toNat = n % 65536) :
    CycleEnds s (u.finish a) n := by
  refine ⟨by simpa using hpc, by simp, by simp [ha, countDown_toNat, hdt], by simp [ha, countDown_toNat, hst], ?_⟩
  simp only [State.finish_beep, ha, if_false, hst, hb]
  by_cases h : 0 < s.st.toNat <;> simp [h]

/-- The common advance (R106). -/
theorem cycleEnds_next {s u : State} (hdt : u.dt = s.dt) (hst : u.st = s.st) (hb : u.beep = s.beep)
    (hpc : u.pc = s.pc) : CycleEnds s (u.finish .next) (s.pc.toNat + 2) :=
  cycleEnds_finish _ _ (by simp) hdt hst hb (by rw [Advance.newPc_next, hpc])

theorem flagByte_toNat (c : Bool) : (flagByte c).toNat = if c then 1 else 0 := by cases c <;> rfl

theorem lowBitFlag_toNat (b : Byte) : (lowBitFlag b).toNat = b.toNat % 2 := by revert b; decide

theorem highBitFlag_toNat (b : Byte) : (highBitFlag b).toNat = b.toNat / 128 := by revert b; decide

end Sys2Proof
end

