-- ==== Sys2Proof/Laws/PerInstr.lean ====
section
/-! SUPPORT. Per instruction: the word of the encoder is one that the instruction's own row of the opcode map R90 matches
(R84), whatever the operands. -/

namespace Sys2Proof

theorem wordNnn_family (f : BitVec 4) (nnn : BitVec 12) : wordNnn f nnn &&& 0xF000 = wordNnn f 0 := by
  have h : (0xF000 : Word) = 0xF#4 ++ 0#12 := rfl
  unfold wordNnn
  rw [h, BitVec.and_append]
  congr 1
  · exact BitVec.and_allOnes
  · exact BitVec.and_zero

theorem wordXnn_family (f : BitVec 4) (x : Fin 16) (nn : Byte) : wordXnn f x nn &&& 0xF000 = wordXnn f 0 0 := by
  have h : (0xF000 : Word) = 0xF#4 ++ (0#4 ++ 0#8) := rfl
  unfold wordXnn
  rw [h, BitVec.and_append, BitVec.and_append]
  congr 1
  · exact BitVec.and_allOnes
  · congr 1
    · exact BitVec.and_zero
    · exact BitVec.and_zero

theorem wordXnn_function (f : BitVec 4) (x : Fin 16) (nn : Byte) : wordXnn f x nn &&& 0xF0FF = wordXnn f 0 nn := by
  have h : (0xF0FF : Word) = 0xF#4 ++ (0#4 ++ 0xFF#8) := rfl
  unfold wordXnn
  rw [h, BitVec.and_append, BitVec.and_append]
  congr 1
  · exact BitVec.and_allOnes
  · congr 1
    · exact BitVec.and_zero
    · exact BitVec.and_allOnes

theorem wordXyn_family (f : BitVec 4) (x y : Fin 16) (n : BitVec 4) :
    wordXyn f x y n &&& 0xF000 = wordXyn f 0 0 0 := by
  have h : (0xF000 : Word) = 0xF#4 ++ (0#4 ++ (0#4 ++ 0#4)) := rfl
  unfold wordXyn
  rw [h, BitVec.and_append, BitVec.and_append, BitVec.and_append]
  congr 1
  · exact BitVec.and_allOnes
  · congr 1
    · exact BitVec.and_zero
    · congr 1
      · exact BitVec.and_zero
      · exact BitVec.and_zero

theorem wordXyn_function (f : BitVec 4) (x y : Fin 16) (n : BitVec 4) :
    wordXyn f x y n &&& 0xF00F = wordXyn f 0 0 n := by
  have h : (0xF00F : Word) = 0xF#4 ++ (0#4 ++ (0#4 ++ 0xF#4)) := rfl
  unfold wordXyn
  rw [h, BitVec.and_append, BitVec.and_append, BitVec.and_append]
  congr 1
  · exact BitVec.and_allOnes
  · congr 1
    · exact BitVec.and_zero
    · congr 1
      · exact BitVec.and_zero
      · exact BitVec.and_allOnes

/-- The instruction's own row of the opcode map matches its word. -/
def Laws.TableRow.Statement (i : Instr) : Prop :=
  ∃ r ∈ opcodeTable, r.mnemonic = i.mnemonic ∧ r.selects (encode i) = true

/-- A word whose masked bits are the row's is selected. -/
theorem OpRow.selects_of_and {r : OpRow} {op : Word} (h : op &&& r.mask = r.bits) : r.selects op = true := by
  simp [OpRow.selects, h]

theorem Laws.TableRow.cls : Laws.TableRow.Statement .cls :=
  ⟨⟨"CLS", 0x00E0, 0xFFFF⟩, by decide, rfl, OpRow.selects_of_and (rfl)⟩

theorem Laws.TableRow.ret : Laws.TableRow.Statement .ret :=
  ⟨⟨"RET", 0x00EE, 0xFFFF⟩, by decide, rfl, OpRow.selects_of_and (rfl)⟩

theorem Laws.TableRow.jpNnn (nnn : BitVec 12) : Laws.TableRow.Statement (.jpNnn nnn) :=
  ⟨⟨"JP_NNN", 0x1000, 0xF000⟩, by decide, rfl, OpRow.selects_of_and (wordNnn_family _ _)⟩

theorem Laws.TableRow.callNnn (nnn : BitVec 12) : Laws.TableRow.Statement (.callNnn nnn) :=
  ⟨⟨"CALL_NNN", 0x2000, 0xF000⟩, by decide, rfl, OpRow.selects_of_and (wordNnn_family _ _)⟩

theorem Laws.TableRow.seVxNn (x : Fin 16) (nn : Byte) : Laws.TableRow.Statement (.seVxNn x nn) :=
  ⟨⟨"SE_VX__NN", 0x3000, 0xF000⟩, by decide, rfl, OpRow.selects_of_and (wordXnn_family _ _ _)⟩

theorem Laws.TableRow.sneVxNn (x : Fin 16) (nn : Byte) : Laws.TableRow.Statement (.sneVxNn x nn) :=
  ⟨⟨"SNE_VX__NN", 0x4000, 0xF000⟩, by decide, rfl, OpRow.selects_of_and (wordXnn_family _ _ _)⟩

theorem Laws.TableRow.seVxVy (x y : Fin 16) : Laws.TableRow.Statement (.seVxVy x y) :=
  ⟨⟨"SE_VX__VY", 0x5000, 0xF00F⟩, by decide, rfl, OpRow.selects_of_and (wordXyn_function _ _ _ _)⟩

theorem Laws.TableRow.ldVxNn (x : Fin 16) (nn : Byte) : Laws.TableRow.Statement (.ldVxNn x nn) :=
  ⟨⟨"LD_VX__NN", 0x6000, 0xF000⟩, by decide, rfl, OpRow.selects_of_and (wordXnn_family _ _ _)⟩

theorem Laws.TableRow.addVxNn (x : Fin 16) (nn : Byte) : Laws.TableRow.Statement (.addVxNn x nn) :=
  ⟨⟨"ADD_VX__NN", 0x7000, 0xF000⟩, by decide, rfl, OpRow.selects_of_and (wordXnn_family _ _ _)⟩

theorem Laws.TableRow.ldVxVy (x y : Fin 16) : Laws.TableRow.Statement (.ldVxVy x y) :=
  ⟨⟨"LD_VX__VY", 0x8000, 0xF00F⟩, by decide, rfl, OpRow.selects_of_and (wordXyn_function _ _ _ _)⟩

theorem Laws.TableRow.orVxVy (x y : Fin 16) : Laws.TableRow.Statement (.orVxVy x y) :=
  ⟨⟨"OR_VX__VY", 0x8001, 0xF00F⟩, by decide, rfl, OpRow.selects_of_and (wordXyn_function _ _ _ _)⟩

theorem Laws.TableRow.andVxVy (x y : Fin 16) : Laws.TableRow.Statement (.andVxVy x y) :=
  ⟨⟨"AND_VX__VY", 0x8002, 0xF00F⟩, by decide, rfl, OpRow.selects_of_and (wordXyn_function _ _ _ _)⟩

theorem Laws.TableRow.xorVxVy (x y : Fin 16) : Laws.TableRow.Statement (.xorVxVy x y) :=
  ⟨⟨"XOR_VX__VY", 0x8003, 0xF00F⟩, by decide, rfl, OpRow.selects_of_and (wordXyn_function _ _ _ _)⟩

theorem Laws.TableRow.addVxVy (x y : Fin 16) : Laws.TableRow.Statement (.addVxVy x y) :=
  ⟨⟨"ADD_VX__VY", 0x8004, 0xF00F⟩, by decide, rfl, OpRow.selects_of_and (wordXyn_function _ _ _ _)⟩

theorem Laws.TableRow.subVxVy (x y : Fin 16) : Laws.TableRow.Statement (.subVxVy x y) :=
  ⟨⟨"SUB_VX__VY", 0x8005, 0xF00F⟩, by decide, rfl, OpRow.selects_of_and (wordXyn_function _ _ _ _)⟩

theorem Laws.TableRow.shrVx (x y : Fin 16) : Laws.TableRow.Statement (.shrVx x y) :=
  ⟨⟨"SHR_VX", 0x8006, 0xF00F⟩, by decide, rfl, OpRow.selects_of_and (wordXyn_function _ _ _ _)⟩

theorem Laws.TableRow.subnVxVy (x y : Fin 16) : Laws.TableRow.Statement (.subnVxVy x y) :=
  ⟨⟨"SUBN_VX__VY", 0x8007, 0xF00F⟩, by decide, rfl, OpRow.selects_of_and (wordXyn_function _ _ _ _)⟩

theorem Laws.TableRow.shlVx (x y : Fin 16) : Laws.TableRow.Statement (.shlVx x y) :=
  ⟨⟨"SHL_VX", 0x800E, 0xF00F⟩, by decide, rfl, OpRow.selects_of_and (wordXyn_function _ _ _ _)⟩

theorem Laws.TableRow.sneVxVy (x y : Fin 16) : Laws.TableRow.Statement (.sneVxVy x y) :=
  ⟨⟨"SNE_VX__VY", 0x9000, 0xF00F⟩, by decide, rfl, OpRow.selects_of_and (wordXyn_function _ _ _ _)⟩

theorem Laws.TableRow.ldINnn (nnn : BitVec 12) : Laws.TableRow.Statement (.ldINnn nnn) :=
  ⟨⟨"LD_I__NNN", 0xA000, 0xF000⟩, by decide, rfl, OpRow.selects_of_and (wordNnn_family _ _)⟩

theorem Laws.TableRow.jpV0Nnn (nnn : BitVec 12) : Laws.TableRow.Statement (.jpV0Nnn nnn) :=
  ⟨⟨"JP_V0__NNN", 0xB000, 0xF000⟩, by decide, rfl, OpRow.selects_of_and (wordNnn_family _ _)⟩

theorem Laws.TableRow.rndVxNn (x : Fin 16) (nn : Byte) : Laws.TableRow.Statement (.rndVxNn x nn) :=
  ⟨⟨"RND_VX__NN", 0xC000, 0xF000⟩, by decide, rfl, OpRow.selects_of_and (wordXnn_family _ _ _)⟩

theorem Laws.TableRow.drwVxVyN (x y : Fin 16) (n : BitVec 4) : Laws.TableRow.Statement (.drwVxVyN x y n) :=
  ⟨⟨"DRW_VX__VY__N", 0xD000, 0xF000⟩, by decide, rfl, OpRow.selects_of_and (wordXyn_family _ _ _ _)⟩

theorem Laws.TableRow.skpVx (x : Fin 16) : Laws.TableRow.Statement (.skpVx x) :=
  ⟨⟨"SKP_VX", 0xE09E, 0xF0FF⟩, by decide, rfl, OpRow.selects_of_and (wordXnn_function _ _ _)⟩

theorem Laws.TableRow.sknpVx (x : Fin 16) : Laws.TableRow.Statement (.sknpVx x) :=
  ⟨⟨"SKNP_VX", 0xE0A1, 0xF0FF⟩, by decide, rfl, OpRow.selects_of_and (wordXnn_function _ _ _)⟩

theorem Laws.TableRow.ldVxDt (x : Fin 16) : Laws.TableRow.Statement (.ldVxDt x) :=
  ⟨⟨"LD_VX__DT", 0xF007, 0xF0FF⟩, by decide, rfl, OpRow.selects_of_and (wordXnn_function _ _ _)⟩

theorem Laws.TableRow.ldVxK (x : Fin 16) : Laws.TableRow.Statement (.ldVxK x) :=
  ⟨⟨"LD_VX__K", 0xF00A, 0xF0FF⟩, by decide, rfl, OpRow.selects_of_and (wordXnn_function _ _ _)⟩

theorem Laws.TableRow.ldDtVx (x : Fin 16) : Laws.TableRow.Statement (.ldDtVx x) :=
  ⟨⟨"LD_DT__VX", 0xF015, 0xF0FF⟩, by decide, rfl, OpRow.selects_of_and (wordXnn_function _ _ _)⟩

theorem Laws.TableRow.ldStVx (x : Fin 16) : Laws.TableRow.Statement (.ldStVx x) :=
  ⟨⟨"LD_ST__VX", 0xF018, 0xF0FF⟩, by decide, rfl, OpRow.selects_of_and (wordXnn_function _ _ _)⟩

theorem Laws.TableRow.addIVx (x : Fin 16) : Laws.TableRow.Statement (.addIVx x) :=
  ⟨⟨"ADD_I__VX", 0xF01E, 0xF0FF⟩, by decide, rfl, OpRow.selects_of_and (wordXnn_function _ _ _)⟩

theorem Laws.TableRow.ldFVx (x : Fin 16) : Laws.TableRow.Statement (.ldFVx x) :=
  ⟨⟨"LD_F__VX", 0xF029, 0xF0FF⟩, by decide, rfl, OpRow.selects_of_and (wordXnn_function _ _ _)⟩

theorem Laws.TableRow.ldBVx (x : Fin 16) : Laws.TableRow.Statement (.ldBVx x) :=
  ⟨⟨"LD_B__VX", 0xF033, 0xF0FF⟩, by decide, rfl, OpRow.selects_of_and (wordXnn_function _ _ _)⟩

theorem Laws.TableRow.ldMemVx (x : Fin 16) : Laws.TableRow.Statement (.ldMemVx x) :=
  ⟨⟨"LD__I___VX", 0xF055, 0xF0FF⟩, by decide, rfl, OpRow.selects_of_and (wordXnn_function _ _ _)⟩

theorem Laws.TableRow.ldVxMem (x : Fin 16) : Laws.TableRow.Statement (.ldVxMem x) :=
  ⟨⟨"LD_VX___I", 0xF065, 0xF0FF⟩, by decide, rfl, OpRow.selects_of_and (wordXnn_function _ _ _)⟩

end Sys2Proof
end

