-- ==== Sys2Proof/Laws/Reset.lean ====
section
/-! SUPPORT. Reset with parameters (spec 00_scope.md R6, 70_reset_and_hazards.md R270): what each address reads as, that
memory is in canonical form, every other field, and that the defaults give `State.reset`. -/

namespace Sys2Proof.Machine

/-- R270: the font at 0x000 to 0x04F, 0 above it, whatever the font. -/
@[simp] theorem State.resetWith_memRead (font : Font) (seed a : Nat) :
    (State.resetWith font seed).memRead a = if h : a < 80 then font[a] else 0 := by
  unfold State.resetWith
  rw [State.setRng_memRead]
  split
  · rename_i h
    have := State.memRead_memWriteBytes_inside State.reset 0 font.toList a (by simpa using h) (by simp)
    rw [Nat.zero_add] at this
    rw [this, Vector.getElem_toList]
  · rename_i h
    rw [State.memRead_memWriteBytes_outside _ _ _ _ (.inr (by simpa using h))]
    exact dif_neg h

theorem State.resetWith_wf (font : Font) (seed : Nat) : Memory.wf (State.resetWith font seed).mem :=
  State.memWriteBytes_wf (s := State.reset) 0 font.toList ⟨List.Pairwise.nil, fun _ h => absurd h List.not_mem_nil⟩

/-- `State.reset` is the reset with the parameters at this machine's values (assumptions 1 and 3). -/
theorem State.resetWith_default : State.resetWith Params.font Params.seed = State.reset := by decide

@[simp] theorem State.resetWith_rng (font : Font) (seed : Nat) : (State.resetWith font seed).rng = prngSeed seed := rfl
@[simp] theorem State.resetWith_v (font : Font) (seed : Nat) :
    (State.resetWith font seed).v = State.reset.v := by simp [State.resetWith]
@[simp] theorem State.resetWith_i (font : Font) (seed : Nat) :
    (State.resetWith font seed).i = State.reset.i := by simp [State.resetWith]
@[simp] theorem State.resetWith_pc (font : Font) (seed : Nat) :
    (State.resetWith font seed).pc = State.reset.pc := by simp [State.resetWith]
@[simp] theorem State.resetWith_stack (font : Font) (seed : Nat) :
    (State.resetWith font seed).stack = State.reset.stack := by simp [State.resetWith]
@[simp] theorem State.resetWith_sp (font : Font) (seed : Nat) :
    (State.resetWith font seed).sp = State.reset.sp := by simp [State.resetWith]
@[simp] theorem State.resetWith_dt (font : Font) (seed : Nat) :
    (State.resetWith font seed).dt = State.reset.dt := by simp [State.resetWith]
@[simp] theorem State.resetWith_st (font : Font) (seed : Nat) :
    (State.resetWith font seed).st = State.reset.st := by simp [State.resetWith]
@[simp] theorem State.resetWith_keys (font : Font) (seed : Nat) :
    (State.resetWith font seed).keys = State.reset.keys := by simp [State.resetWith]
@[simp] theorem State.resetWith_fb (font : Font) (seed : Nat) :
    (State.resetWith font seed).fb = State.reset.fb := by simp [State.resetWith]
@[simp] theorem State.resetWith_fsm (font : Font) (seed : Nat) :
    (State.resetWith font seed).fsm = State.reset.fsm := by simp [State.resetWith]
@[simp] theorem State.resetWith_faultCode (font : Font) (seed : Nat) :
    (State.resetWith font seed).faultCode = State.reset.faultCode := by simp [State.resetWith]
@[simp] theorem State.resetWith_faultInfo (font : Font) (seed : Nat) :
    (State.resetWith font seed).faultInfo = State.reset.faultInfo := by simp [State.resetWith]
@[simp] theorem State.resetWith_unkSeen (font : Font) (seed : Nat) :
    (State.resetWith font seed).unkSeen = State.reset.unkSeen := by simp [State.resetWith]
@[simp] theorem State.resetWith_lastUnknown (font : Font) (seed : Nat) :
    (State.resetWith font seed).lastUnknown = State.reset.lastUnknown := by simp [State.resetWith]
@[simp] theorem State.resetWith_beep (font : Font) (seed : Nat) :
    (State.resetWith font seed).beep = State.reset.beep := by simp [State.resetWith]
@[simp] theorem State.resetWith_unknownStrobe (font : Font) (seed : Nat) :
    (State.resetWith font seed).unknownStrobe = State.reset.unknownStrobe := by simp [State.resetWith]
@[simp] theorem State.resetWith_reg (font : Font) (seed : Nat) (x : Fin 16) :
    (State.resetWith font seed).reg x = 0 := by simp [State.resetWith]
@[simp] theorem State.resetWith_slot (font : Font) (seed : Nat) (j : Fin 16) :
    (State.resetWith font seed).slot j = 0 := by simp [State.resetWith]
@[simp] theorem State.resetWith_keyPressed (font : Font) (seed : Nat) (k : Fin 16) :
    (State.resetWith font seed).keyPressed k = false := by simp [State.resetWith]
@[simp] theorem State.resetWith_cell (font : Font) (seed : Nat) (c : Fin 2048) :
    (State.resetWith font seed).cell c = false := by simp [State.resetWith]

end Sys2Proof.Machine
end

