-- ==== Sys2Proof/Laws/Sprite.lean ====
section
/-! SUPPORT. What drawing a sprite does, said once (spec 44_display.md R202, R204): a sprite is the list of the targets of
its set bits, which has no repeats; drawing it flips exactly the listed cells and sets VF when one of them was set. -/

namespace Sys2Proof.Machine

/-- The targets of the set bits of one sprite row, left to right. -/
def rowTargets (x0 y : Nat) (b : Byte) : List Nat :=
  ((List.range 8).filter fun col => b.getLsbD (7 - col)).map fun col => x0 + col + y * 64

/-- The targets of the set bits of a sprite, row by row. -/
def spriteTargets (s : State) (x0 y0 n : Nat) : List Nat :=
  (List.range n).flatMap fun row => rowTargets x0 (y0 + row) (s.memRead (s.i.toNat + row))

/-- The pixels of a list of targets drawn one after the other. -/
def State.drawPixels (s : State) (ts : List Nat) : State := ts.foldl State.drawPixel s

theorem State.drawRow_eq_drawPixels (s : State) (x0 y : Nat) (b : Byte) :
    s.drawRow x0 y b = s.drawPixels (rowTargets x0 y b) := by
  unfold State.drawRow rowTargets State.drawPixels
  generalize List.range 8 = cols
  induction cols generalizing s with
  | nil => rfl
  | cons c cs ih =>
    rw [List.foldl_cons, ih]
    by_cases h : b.getLsbD (7 - c) = true <;> simp [h]

theorem State.drawPixels_mem (s : State) (ts : List Nat) : (s.drawPixels ts).mem = s.mem := by
  unfold State.drawPixels
  induction ts generalizing s with
  | nil => rfl
  | cons t ts ih => rw [List.foldl_cons, ih, State.drawPixel_mem]

theorem State.drawPixels_i (s : State) (ts : List Nat) : (s.drawPixels ts).i = s.i := by
  unfold State.drawPixels
  induction ts generalizing s with
  | nil => rfl
  | cons t ts ih => rw [List.foldl_cons, ih, State.drawPixel_i]

/-- Drawing a sprite draws its targets: no row changes the bytes of a later one (R202: "Memory is only read"). -/
theorem State.drawSprite_eq_drawPixels (s : State) (x0 y0 n : Nat) :
    s.drawSprite x0 y0 n = s.drawPixels (spriteTargets s x0 y0 n) := by
  unfold State.drawSprite spriteTargets
  suffices H : ∀ (rows : List Nat) (u : State), u.mem = s.mem → u.i = s.i →
      rows.foldl (fun u row => u.drawRow x0 (y0 + row) (u.memRead (u.i.toNat + row))) u =
      u.drawPixels (rows.flatMap fun row => rowTargets x0 (y0 + row) (s.memRead (s.i.toNat + row))) from H _ s rfl rfl
  intro rows
  induction rows with
  | nil => intros; rfl
  | cons r rs ih =>
    intro u hm hi
    rw [List.foldl_cons, State.drawRow_eq_drawPixels, State.memRead_congr hm, hi,
      ih _ (by rw [State.drawPixels_mem, hm]) (by rw [State.drawPixels_i, hi])]
    simp [State.drawPixels, List.flatMap_cons]

/-- Distinct targets: each listed cell is flipped once, and no other. -/
theorem State.cell_drawPixels (s : State) (ts : List Nat) (hn : ts.Nodup) (c : Fin 2048) :
    (s.drawPixels ts).cell c = (s.cell c ^^ decide (c.val ∈ ts)) := by
  induction ts generalizing s with
  | nil => simp [State.drawPixels]
  | cons t ts ih =>
    have := ih (s.drawPixel t) (List.nodup_cons.1 hn).2
    unfold State.drawPixels at *
    rw [List.foldl_cons, this, State.cell_drawPixel]
    by_cases h : c.val = t
    · have h2 : c.val ∉ ts := by rw [h]; exact (List.nodup_cons.1 hn).1
      simp [h]
      rw [← h]; simp [h2]
    · simp [h]

/-- Distinct targets: VF becomes 1 when a listed cell was set before the draw, and stays otherwise. -/
theorem State.flag_drawPixels (s : State) (ts : List Nat) (hn : ts.Nodup) :
    (s.drawPixels ts).reg 15 = if ∃ c : Fin 2048, c.val ∈ ts ∧ s.cell c = true then 1 else s.reg 15 := by
  induction ts generalizing s with
  | nil => simp [State.drawPixels]
  | cons t ts ih =>
    have := ih (s.drawPixel t) (List.nodup_cons.1 hn).2
    unfold State.drawPixels at *
    rw [List.foldl_cons, this, State.reg_drawPixel]
    have hnt := (List.nodup_cons.1 hn).1
    have later : (∃ c : Fin 2048, c.val ∈ ts ∧ (s.drawPixel t).cell c = true) ↔
        ∃ c : Fin 2048, c.val ∈ ts ∧ s.cell c = true := by
      refine exists_congr fun c => and_congr_right fun hc => ?_
      have : c.val ≠ t := fun h => hnt (h ▸ hc)
      simp [State.cell_drawPixel, this]
    rw [if_congr later rfl rfl]
    by_cases h1 : ∃ c : Fin 2048, c.val ∈ ts ∧ s.cell c = true
    · obtain ⟨c, a, b⟩ := h1
      rw [if_pos ⟨c, a, b⟩, if_pos ⟨c, List.mem_cons_of_mem _ a, b⟩]
    · rw [if_neg h1]
      by_cases h2 : ∃ h : t < 2048, s.cell ⟨t, h⟩ = true
      · obtain ⟨h, hc⟩ := h2
        rw [if_pos ⟨rfl, h, hc⟩, if_pos ⟨⟨t, h⟩, by simp, hc⟩]
      · rw [if_neg (by rintro ⟨-, h⟩; exact h2 h), if_neg]
        rintro ⟨c, hc, hcc⟩
        rcases List.mem_cons.1 hc with h | h
        · exact h2 ⟨h ▸ c.isLt, by subst h; exact hcc⟩
        · exact h1 ⟨c, h, hcc⟩

theorem mem_spriteTargets (s : State) (x0 y0 n t : Nat) :
    t ∈ spriteTargets s x0 y0 n ↔ Sys2Proof.SpriteCovers s x0 y0 n t := by
  simp only [spriteTargets, rowTargets, Sys2Proof.SpriteCovers, List.mem_flatMap, List.mem_range, List.mem_map,
    List.mem_filter]
  constructor
  · rintro ⟨r, hr, c, ⟨hc, hb⟩, h⟩; exact ⟨r, c, hr, hc, hb, h.symm⟩
  · rintro ⟨r, c, hr, hc, hb, h⟩; exact ⟨r, hr, c, ⟨hc, hb⟩, h.symm⟩

/-- R204: no two pixels of a sprite have the same target. -/
theorem nodup_spriteTargets (s : State) (x0 y0 n : Nat) : (spriteTargets s x0 y0 n).Nodup := by
  unfold spriteTargets
  rw [List.nodup_flatMap]
  refine ⟨fun r _ => ?_, ?_⟩
  · unfold rowTargets
    apply List.Nodup.map
    · intro a b h; simp at h; omega
    · exact List.Nodup.filter _ List.nodup_range
  · refine List.Pairwise.imp ?_ (List.pairwise_lt_range)
    intro a b hab
    simp only [Function.onFun, List.disjoint_left, rowTargets, List.mem_map, List.mem_filter, List.mem_range]
    rintro t ⟨c, ⟨hc, -⟩, h⟩ ⟨c', ⟨hc', -⟩, h'⟩
    omega

end Sys2Proof.Machine
end

