-- ==== Sys2Proof/Tests/Slice0.lean ====
section
/-! SUPPORT. The model's own tests: ill-formed words, one spelled-out word for each constructor, at most two single-step
tests for each instruction, and for each statement with hypotheses a witness that meets them. Expected values are those of
spec 95_test_vectors.md (V.. and E.. below name its rows) or computed by hand from the rule named. -/

namespace Sys2Proof.Tests

open Sys2Proof Sys2Proof.Machine

/-! ### Helpers -/

/-- The state after reset, between cycles (the convention "Start" of 95_test_vectors.md). -/
def base : State := { State.reset with fsm := .ready }

/-- `base` with some general registers set. -/
def regs (l : List (Fin 16 × Byte)) : State := l.foldl (fun s p => s.setReg p.1 p.2) base

/-- One cycle from `s` with the word `w` at `pc` ends in a next state of which `check` holds. -/
def ends (w : Nat) (s : State) (check : State → Bool) : Bool :=
  match step (s.withFetchWord 16 w) with
  | .next t => check t
  | _ => false

/-- The state after one cycle. -/
def next (s : State) : State :=
  match step s with
  | .next t => t
  | _ => s

/-- The state after a load of the image and before the first cycle. -/
def loaded (image : List Byte) : State := loadImage image State.reset

/-- The cells that are set, of those listed. -/
def lit (s : State) (cells : List (Fin 2048)) : List Bool := cells.map s.cell

/-- `base` with some cells set. -/
def screen (cells : List (Fin 2048)) (s : State) : State := cells.foldl State.flipCell s

/-! ### Ill-formed words: one of each family of R86 -/

theorem test_illformed_0000 : wordWellFormed 0x0000 = false ∧ decode 0x0000 = .unknown 0x0000 := by decide
theorem test_illformed_0123 : wordWellFormed 0x0123 = false ∧ decode 0x0123 = .unknown 0x0123 := by decide
theorem test_illformed_5121 : wordWellFormed 0x5121 = false ∧ decode 0x5121 = .unknown 0x5121 := by decide
theorem test_illformed_8018 : wordWellFormed 0x8018 = false ∧ decode 0x8018 = .unknown 0x8018 := by decide
theorem test_illformed_9121 : wordWellFormed 0x9121 = false ∧ decode 0x9121 = .unknown 0x9121 := by decide
theorem test_illformed_e000 : wordWellFormed 0xE000 = false ∧ decode 0xE000 = .unknown 0xE000 := by decide
theorem test_illformed_ffff : wordWellFormed 0xFFFF = false ∧ decode 0xFFFF = .unknown 0xFFFF := by decide
theorem test_wellformed_6005 : wordWellFormed 0x6005 = true := by decide

/-! ### Decoding: the patterns of R90 written out bit by bit -/

theorem test_decode_cls : decode 0b0000000011100000 = .instr .cls := by decide
theorem test_decode_ret : decode 0b0000000011101110 = .instr .ret := by decide
theorem test_decode_jp : decode 0b0001001000101000 = .instr (.jpNnn 0x228) := by decide
theorem test_decode_call : decode 0b0010001000001010 = .instr (.callNnn 0x20A) := by decide
theorem test_decode_se_imm : decode 0b0011001100010001 = .instr (.seVxNn 3 0x11) := by decide
theorem test_decode_sne_imm : decode 0b0100001100010000 = .instr (.sneVxNn 3 0x10) := by decide
theorem test_decode_se_reg : decode 0b0101000100100000 = .instr (.seVxVy 1 2) := by decide
theorem test_decode_ld_imm : decode 0b0110101000101111 = .instr (.ldVxNn 10 0x2F) := by decide
theorem test_decode_add_imm : decode 0b0111001000100000 = .instr (.addVxNn 2 0x20) := by decide
theorem test_decode_ld_reg : decode 0b1000000000010000 = .instr (.ldVxVy 0 1) := by decide
theorem test_decode_or : decode 0b1000001010010001 = .instr (.orVxVy 2 9) := by decide
theorem test_decode_and : decode 0b1000001010010010 = .instr (.andVxVy 2 9) := by decide
theorem test_decode_xor : decode 0b1000001010010011 = .instr (.xorVxVy 2 9) := by decide
theorem test_decode_add_reg : decode 0b1000111100010100 = .instr (.addVxVy 15 1) := by decide
theorem test_decode_sub : decode 0b1000000011110101 = .instr (.subVxVy 0 15) := by decide
theorem test_decode_shr : decode 0b1000001101110110 = .instr (.shrVx 3 7) := by decide
theorem test_decode_subn : decode 0b1000111100010111 = .instr (.subnVxVy 15 1) := by decide
theorem test_decode_shl : decode 0b1000001101111110 = .instr (.shlVx 3 7) := by decide
theorem test_decode_sne_reg : decode 0b1001000100100000 = .instr (.sneVxVy 1 2) := by decide
theorem test_decode_ld_i : decode 0b1010001100000001 = .instr (.ldINnn 0x301) := by decide
theorem test_decode_jp_v0 : decode 0b1011010111110000 = .instr (.jpV0Nnn 0x5F0) := by decide
theorem test_decode_rnd : decode 0b1100001100001111 = .instr (.rndVxNn 3 0x0F) := by decide
theorem test_decode_drw : decode 0b1101101010110101 = .instr (.drwVxVyN 10 11 5) := by decide
theorem test_decode_skp : decode 0b1110010110011110 = .instr (.skpVx 5) := by decide
theorem test_decode_sknp : decode 0b1110010110100001 = .instr (.sknpVx 5) := by decide
theorem test_decode_ld_dt : decode 0b1111010000000111 = .instr (.ldVxDt 4) := by decide
theorem test_decode_ld_k : decode 0b1111001100001010 = .instr (.ldVxK 3) := by decide
theorem test_decode_set_dt : decode 0b1111010000010101 = .instr (.ldDtVx 4) := by decide
theorem test_decode_set_st : decode 0b1111010000011000 = .instr (.ldStVx 4) := by decide
theorem test_decode_add_i : decode 0b1111001000011110 = .instr (.addIVx 2) := by decide
theorem test_decode_glyph : decode 0b1111110000101001 = .instr (.ldFVx 12) := by decide
theorem test_decode_digits : decode 0b1111000000110011 = .instr (.ldBVx 0) := by decide
theorem test_decode_store : decode 0b1111001001010101 = .instr (.ldMemVx 2) := by decide
theorem test_decode_load : decode 0b1111001001100101 = .instr (.ldVxMem 2) := by decide

/-- R92: `LD V0, 0x05` is `6005`, bytes `60 05`; `ADD V0, V1` is `8014`. -/
theorem test_encode_bytes :
    encodeBytes (.ldVxNn 0 0x05) = (0x60, 0x05) ∧ encodeBytes (.addVxVy 0 1) = (0x80, 0x14) := by decide

theorem test_table_word : decodeTableWord 16 0x6005 = some (.ldVxNn 0 5) ∧ decodeTableWord 16 0x5121 = none := by decide

/-! ### Reset, the host and the cycle -/

/-- V70-2, and the boundaries of the font region (R46, R69). -/
theorem test_reset_memory :
    (List.range 5).map (fun k => State.reset.memRead (0x4B + k)) = [0xF0, 0x80, 0xF0, 0x80, 0x80] ∧
    State.reset.memRead 0x50 = 0 ∧ State.reset.memRead 0x200 = 0 ∧ State.reset.memRead 0xFFF = 0 := by decide

/-- R6, R270: another value of the parameter `FONT` stands at 0x000 to 0x04F, in canonical form, and nowhere else. -/
theorem test_reset_other_font :
    let s := hostReset ((Params.font.set 0 0xAA).set 79 0xBB) 7 base
    s.mem = [(0x000, 0xAA), (0x04F, 0xBB)] ∧ s.memRead 0x000 = 0xAA ∧ s.memRead 0x001 = 0x90 ∧ s.memRead 0x04F = 0xBB ∧
    s.memRead 0x050 = 0 ∧ s.rng = ⟨7, 0⟩ := by decide

/-- V70-3, and the top of the load region. -/
theorem test_load_port :
    (loadWrite 0x1FF 0xAA State.reset).memRead 0x1FF = 0x00 ∧ (loadWrite 0x200 0xBB State.reset).memRead 0x200 = 0xBB ∧
    (loadWrite 0xFFF 0xBB State.reset).memRead 0xFFF = 0xBB ∧ loadWrite 0x1000 0xBB State.reset = State.reset := by
  decide

/-- V70-4. -/
theorem test_load_port_after_cycle : loadWrite 0x300 0xCC base = base := by decide

/-- V70-5. -/
theorem test_first_cycle : ends 0x00E0 State.reset (fun t => t.pc == 0x202 && t.fsm == .ready) = true := by decide

/-- R258. -/
theorem test_key_event :
    (keyEvent 7 true base).keys[7] = 1 ∧ (keyEvent 7 false (keyEvent 7 true base)).keys[7] = 0 := by decide

/-- R39: the codes of the status registers after V41-9. -/
theorem test_status_read :
    ends 0x2400 { base with sp := 16 } (fun t => statusRead t == ⟨2, 3, 0x0010, 0, 0⟩) = true := by decide

/-- V40-2: 0xFFE is the last address a fetch may start at. -/
theorem test_fetch_last : ends 0x6005 { base with pc := 0xFFE } (fun t => t.pc == 0x1000 && t.reg 0 == 5) = true := by
  decide

/-- V40-3, V40-4. -/
theorem test_fetch_bounds :
    ((next { base with pc := 0xFFF }).faultCode = .fetchBounds ∧ (next { base with pc := 0xFFF }).faultInfo = 0x1000) ∧
    (next { base with pc := 0x1000 }).faultInfo = 0x1000 := by decide

/-- V40-5. -/
theorem test_halted :
    step { base with fsm := .fault, faultCode := .stackOverflow, faultInfo := 0x10, st := 5, beep := true } =
      .next { base with fsm := .fault, faultCode := .stackOverflow, faultInfo := 0x10, st := 5 } := rfl

/-- V40-6. -/
theorem test_unknown :
    ends 0x0123 { base with dt := 5, st := 5 } (fun t => t.unkSeen && t.lastUnknown == 0x0123 && t.pc == 0x200 &&
      t.dt == 5 && t.st == 5 && !t.beep && t.unknownStrobe == some 0x0123) = true := by decide

/-- V40-7, with `UNK_RUNS_TIMERS = true`. -/
theorem test_unknown_runs_timers :
    let t := unknownOpcodeWith true 0x0123 { base with dt := 5, st := 5 }
    t.dt = 4 ∧ t.st = 4 ∧ t.unkSeen = true ∧ t.lastUnknown = 0x0123 ∧ t.beep = true := by decide

/-- V40-9, V40-10. -/
theorem test_timer_step :
    ends 0x6005 { base with dt := 1, st := 1 } (fun t => t.dt == 0 && t.st == 0 && t.beep) = true ∧
    ends 0x6005 base (fun t => t.dt == 0 && t.st == 0 && !t.beep) = true := by decide

/-- R80, R92: the placed word stands at `pc`, high byte first; a halted block is made ready (assumption 12). -/
theorem test_place_word :
    (base.withFetchWord 16 0x6005).memRead 0x200 = 0x60 ∧ (base.withFetchWord 16 0x6005).memRead 0x201 = 0x05 ∧
    ends 0x6005 { base with fsm := .fault, pc := 0xFFF } (fun t => t.reg 0 == 5) = true := by decide

/-! ### Control flow -/

/-- V41-1, V41-3. -/
theorem test_ret :
    ends 0x00EE { base with pc := 0x20C, sp := 1, stack := base.stack.set 0 0x202 }
      (fun t => t.pc == 0x204 && t.sp == 0 && t.slot 0 == 0x202) = true ∧
    ends 0x00EE { base with pc := 0x300, sp := 16, stack := base.stack.set 15 0x2F0 }
      (fun t => t.pc == 0x2F2 && t.sp == 15) = true := by decide
/-- V41-2. -/
theorem test_ret_empty : ends 0x00EE { base with pc := 0x20C } (fun t => t.pc == 0x20E && t.sp == 0) = true := by decide
/-- V41-5. -/
theorem test_jp : ends 0x1301 base (fun t => t.pc == 0x301) = true := by decide
/-- V41-7, V41-8. -/
theorem test_call :
    ends 0x220A { base with pc := 0x202 } (fun t => t.pc == 0x20A && t.sp == 1 && t.slot 0 == 0x202) = true ∧
    ends 0x2400 { base with pc := 0x300, sp := 15 } (fun t => t.pc == 0x400 && t.sp == 16 && t.slot 15 == 0x300) = true := by
  decide
/-- V41-9. -/
theorem test_call_full :
    ends 0x2400 { base with pc := 0x300, sp := 16 }
      (fun t => t.fsm == .fault && t.faultCode == .stackOverflow && t.faultInfo == 0x10 && t.pc == 0x300) = true := by
  decide
/-- V41-10, V41-11. -/
theorem test_se_imm :
    ends 0x3310 { regs [(3, 0x10)] with pc := 0x204 } (fun t => t.pc == 0x208) = true ∧
    ends 0x3311 { regs [(3, 0x10)] with pc := 0x204 } (fun t => t.pc == 0x206) = true := by decide
/-- V41-13, V41-14. -/
theorem test_sne_imm :
    ends 0x4311 { regs [(3, 0x10)] with pc := 0x204 } (fun t => t.pc == 0x208) = true ∧
    ends 0x4310 { regs [(3, 0x10)] with pc := 0x204 } (fun t => t.pc == 0x206) = true := by decide
/-- V41-15, V41-16. -/
theorem test_se_reg :
    ends 0x5120 { regs [(1, 7), (2, 7)] with pc := 0x210 } (fun t => t.pc == 0x214) = true ∧
    ends 0x5120 { regs [(1, 7), (2, 8)] with pc := 0x210 } (fun t => t.pc == 0x212) = true := by decide
/-- V41-18, V41-19. -/
theorem test_sne_reg :
    ends 0x9120 { regs [(1, 7), (2, 8)] with pc := 0x210 } (fun t => t.pc == 0x214) = true ∧
    ends 0x9110 { regs [(1, 7)] with pc := 0x210 } (fun t => t.pc == 0x212) = true := by decide
/-- V41-21: V0 is used, not V5. -/
theorem test_jp_v0 : ends 0xB5F0 (regs [(0, 1), (5, 0x40)]) (fun t => t.pc == 0x5F1) = true := by decide
/-- V41-22, first cycle: not reduced to 12 bits. -/
theorem test_jp_v0_past : ends 0xBF01 (regs [(0, 0xFF)]) (fun t => t.pc == 0x1000) = true := by decide

/-! ### Registers and arithmetic -/

/-- V42-1, V42-2. -/
theorem test_ld_imm :
    ends 0x6A2F base (fun t => t.reg 10 == 0x2F) = true ∧ ends 0x6F07 base (fun t => t.reg 15 == 7) = true := by decide
/-- V42-3, V42-4. -/
theorem test_add_imm :
    ends 0x7220 (regs [(2, 0xF0), (15, 0x55)]) (fun t => t.reg 2 == 0x10 && t.reg 15 == 0x55) = true ∧
    ends 0x7F01 (regs [(15, 0xFF)]) (fun t => t.reg 15 == 0) = true := by decide
/-- V42-5. -/
theorem test_ld_reg : ends 0x8010 (regs [(1, 0x33)]) (fun t => t.reg 0 == 0x33 && t.reg 1 == 0x33) = true := by decide
/-- V42-6. -/
theorem test_or : ends 0x8011 (regs [(0, 0x0C), (1, 0x30), (15, 7)]) (fun t => t.reg 0 == 0x3C && t.reg 15 == 7) = true := by
  decide
/-- V42-7. -/
theorem test_and : ends 0x8012 (regs [(0, 0x0F), (1, 0x3C)]) (fun t => t.reg 0 == 0x0C) = true := by decide
/-- V42-8, V42-9. -/
theorem test_xor :
    ends 0x8013 (regs [(0, 0x0F), (1, 0x3C)]) (fun t => t.reg 0 == 0x33) = true ∧
    ends 0x8553 (regs [(5, 0x77)]) (fun t => t.reg 5 == 0) = true := by decide
/-- V42-10, V42-11. -/
theorem test_add_reg :
    ends 0x8014 (regs [(0, 0xFF), (1, 1)]) (fun t => t.reg 0 == 0 && t.reg 15 == 1) = true ∧
    ends 0x8014 (regs [(0, 5), (1, 3), (15, 1)]) (fun t => t.reg 0 == 8 && t.reg 15 == 0) = true := by decide
/-- V42-13, V42-14. -/
theorem test_add_reg_flag :
    ends 0x8F14 (regs [(15, 0xF0), (1, 0x20)]) (fun t => t.reg 15 == 0x10) = true ∧
    ends 0x80F4 (regs [(0, 0xFF), (15, 1)]) (fun t => t.reg 0 == 0 && t.reg 15 == 1) = true := by decide
/-- V42-15, V42-16, V42-17. -/
theorem test_sub :
    ends 0x8015 (regs [(0, 7), (1, 5)]) (fun t => t.reg 0 == 2 && t.reg 15 == 1) = true ∧
    ends 0x8015 (regs [(0, 5), (1, 5), (15, 0x55)]) (fun t => t.reg 0 == 0 && t.reg 15 == 0) = true ∧
    ends 0x8015 (regs [(0, 5), (1, 7), (15, 0x55)]) (fun t => t.reg 0 == 0xFE && t.reg 15 == 0) = true := by decide
/-- V42-18, V42-19. -/
theorem test_sub_flag :
    ends 0x8F15 (regs [(15, 9), (1, 2)]) (fun t => t.reg 15 == 0xFF) = true ∧
    ends 0x80F5 (regs [(0, 9), (15, 2)]) (fun t => t.reg 0 == 8 && t.reg 15 == 1) = true := by decide
/-- V42-20, V42-21. -/
theorem test_shr :
    ends 0x8306 (regs [(3, 5)]) (fun t => t.reg 3 == 2 && t.reg 15 == 1) = true ∧
    ends 0x8376 (regs [(3, 4), (7, 0xFF), (15, 0x55)]) (fun t => t.reg 3 == 2 && t.reg 15 == 0) = true := by decide
/-- V42-22. -/
theorem test_shr_flag : ends 0x8F06 (regs [(15, 3)]) (fun t => t.reg 15 == 0) = true := by decide
/-- V42-23, V42-24, V42-25. -/
theorem test_subn :
    ends 0x8017 (regs [(0, 5), (1, 7)]) (fun t => t.reg 0 == 2 && t.reg 15 == 1) = true ∧
    ends 0x8017 (regs [(0, 7), (1, 5), (15, 0x55)]) (fun t => t.reg 0 == 0xFE && t.reg 15 == 0) = true ∧
    ends 0x8017 (regs [(0, 7), (1, 7), (15, 0x55)]) (fun t => t.reg 0 == 0 && t.reg 15 == 0) = true := by decide
/-- V42-26. -/
theorem test_subn_flag : ends 0x8F17 (regs [(15, 2), (1, 9)]) (fun t => t.reg 15 == 8) = true := by decide
/-- V42-27, V42-28. -/
theorem test_shl :
    ends 0x830E (regs [(3, 0x81)]) (fun t => t.reg 3 == 2 && t.reg 15 == 1) = true ∧
    ends 0x830E (regs [(3, 0x40), (15, 0x55)]) (fun t => t.reg 3 == 0x80 && t.reg 15 == 0) = true := by decide
/-- V42-29. -/
theorem test_shl_flag : ends 0x8F0E (regs [(15, 0x80)]) (fun t => t.reg 15 == 2) = true := by decide
/-- V42-32: NN = 0 advances the generator; and a second draw is another draw. -/
theorem test_rnd_draws :
    ends 0xC300 (regs [(3, 0x44)]) (fun t => t.rng == ⟨0, 1⟩ && t.pc == 0x202) = true ∧
    ends 0xC30F base (fun t => t.rng == ⟨0, 1⟩) = true := by decide
/-- V42-31: with `random_byte()` returning 0x5A. -/
theorem test_rnd_mask (h : Config.prngByte 0 0 = 0x5A) :
    exec (.rndVxNn 3 0x0F) base = .next (((base.setRng ⟨0, 1⟩).setReg 3 0x0A).finish .next) := by
  show Host.Outcome.next (((base.setRng ⟨0, 1⟩).setReg 3 (0x0F &&& Config.prngByte 0 0)).finish .next) = _
  rw [h]; rfl

/-! ### Index register and memory -/

/-- V43-1. -/
theorem test_ld_i : ends 0xA300 base (fun t => t.i == 0x300) = true := by decide
/-- V43-3, V43-4. -/
theorem test_add_i :
    ends 0xF21E { regs [(2, 1)] with i := 0xFFF } (fun t => t.i == 0x1000) = true ∧
    ends 0xF21E { regs [(2, 1)] with i := 0xFFFF } (fun t => t.i == 0) = true := by decide
/-- V43-5. -/
theorem test_add_i_flag :
    ends 0xF21E { regs [(2, 0x20), (15, 5)] with i := 0xF0 } (fun t => t.i == 0x110 && t.reg 15 == 5) = true := by decide
/-- V43-6, V43-8. -/
theorem test_glyph :
    ends 0xFC29 (regs [(12, 0x0F)]) (fun t => t.i == 0x4B) = true ∧
    ends 0xFC29 { regs [(12, 0x10)] with i := 0x123 } (fun t => t.i == 0x123) = true := by decide
/-- V43-9, V43-12. -/
theorem test_digits :
    ends 0xF033 { regs [(0, 0xFE)] with i := 0x300 }
      (fun t => t.memRead 0x300 == 2 && t.memRead 0x301 == 5 && t.memRead 0x302 == 4 && t.i == 0x300) = true ∧
    ends 0xF033 { regs [(0, 0x7B)] with i := 0xFFD }
      (fun t => t.memRead 0xFFD == 1 && t.memRead 0xFFE == 2 && t.memRead 0xFFF == 3) = true := by decide
/-- V43-13. -/
theorem test_digits_bounds :
    ends 0xF033 { regs [(0, 7)] with i := 0xFFE }
      (fun t => t.faultCode == .dataBounds && t.faultInfo == 0x1000 && t.memRead 0xFFF == 0) = true := by decide
/-- V43-14, V43-16. -/
theorem test_store :
    ends 0xF255 { regs [(0, 1), (1, 2), (2, 3), (3, 4)] with i := 0x400 }
      (fun t => (List.range 4).map (fun k => t.memRead (0x400 + k)) == [1, 2, 3, 0] && t.i == 0x400) = true ∧
    ends 0xFF55 { regs [(0, 0x10), (14, 0xEE), (15, 0xFF)] with i := 0xFF0 }
      (fun t => t.memRead 0xFF0 == 0x10 && t.memRead 0xFFE == 0xEE && t.memRead 0xFFF == 0xFF) = true := by decide
/-- V43-17, V43-18. -/
theorem test_store_bounds :
    ends 0xFF55 { regs [(0, 0x10)] with i := 0xFF1 }
      (fun t => t.faultCode == .dataBounds && t.faultInfo == 0x1000 && t.memRead 0xFF1 == 0) = true ∧
    ends 0xF055 { regs [(0, 0x10)] with i := 0xFFFF } (fun t => t.faultInfo == 0xFFFF) = true := by decide
/-- V43-19, V43-22. -/
theorem test_load :
    ends 0xF265 { ((base.memWrite 0x300 2).memWrite 0x301 5).memWrite 0x302 4 with i := 0x300 }
      (fun t => t.reg 0 == 2 && t.reg 1 == 5 && t.reg 2 == 4 && t.reg 3 == 0) = true ∧
    ends 0xF065 base (fun t => t.reg 0 == 0xF0) = true := by decide
/-- V43-21. -/
theorem test_load_bounds :
    ends 0xF165 { regs [(0, 0x11), (1, 0x22)] with i := 0xFFF }
      (fun t => t.faultCode == .dataBounds && t.faultInfo == 0x1000 && t.reg 0 == 0x11) = true := by decide

/-! ### Display -/

/-- V44-1. -/
theorem test_cls :
    ends 0x00E0 (screen [0, 100, 2047] (regs [(15, 1)]))
      (fun t => lit t [0, 100, 2047] == [false, false, false] && t.reg 15 == 1) = true := by decide
/-- V44-2, V44-7: the glyph F, and the pixels past column 63. -/
theorem test_drw :
    ends 0xD015 { regs [(15, 0x55)] with i := 0x4B }
      (fun t => lit t [0, 3, 4, 64, 65, 131, 192, 256] == [true, true, false, true, false, true, true, true] &&
        t.reg 15 == 0) = true ∧
    ends 0xD011 { regs [(0, 0x3F)] with i := 0x4B } (fun t => lit t [62, 63, 64, 66, 67] == [false, true, true, true, false]) =
      true := by decide
/-- V44-5, V44-11: one overlap; and a sprite past the end of memory, which leaves VF. -/
theorem test_drw_flag :
    ends 0xD011 (screen [2, 5] { base with i := 0x4B })
      (fun t => lit t [0, 1, 2, 3, 5] == [true, true, false, true, true] && t.reg 15 == 1) = true ∧
    ends 0xD013 { regs [(15, 7)] with i := 0xFFE } (fun t => t.faultCode == .dataBounds && t.reg 15 == 7) = true := by decide

/-! ### Timers and keys -/

/-- V45-1, V45-2. -/
theorem test_skp :
    ends 0xE59E { regs [(5, 0x0A)] with pc := 0x300, keys := base.keys.set 10 1 } (fun t => t.pc == 0x304) = true ∧
    ends 0xE59E { regs [(5, 0x0A)] with pc := 0x300 } (fun t => t.pc == 0x302) = true := by decide
/-- V45-3. -/
theorem test_skp_index :
    ends 0xE59E (regs [(5, 0x10)]) (fun t => t.faultCode == .keyIndex && t.faultInfo == 0x10) = true := by decide
/-- V45-4, V45-5. -/
theorem test_sknp :
    ends 0xE5A1 { regs [(5, 0x0A)] with pc := 0x300 } (fun t => t.pc == 0x304) = true ∧
    ends 0xE5A1 { regs [(5, 0x0A)] with pc := 0x300, keys := base.keys.set 10 1 } (fun t => t.pc == 0x302) = true := by
  decide
/-- V45-6. -/
theorem test_sknp_index :
    ends 0xE5A1 (regs [(5, 0xFF)]) (fun t => t.faultCode == .keyIndex && t.faultInfo == 0xFF) = true := by decide
/-- V45-7. -/
theorem test_ld_dt : ends 0xF407 { base with dt := 0x10 } (fun t => t.reg 4 == 0x10 && t.dt == 0x0F) = true := by decide
/-- V45-8, one cycle. -/
theorem test_ld_k_waits :
    ends 0xF30A { base with pc := 0x220, dt := 5, st := 5 }
      (fun t => t.pc == 0x220 && t.dt == 5 && t.st == 5 && !t.beep) = true := by decide
/-- V45-9. -/
theorem test_ld_k :
    ends 0xF30A { base with pc := 0x220, dt := 5, st := 5, keys := (base.keys.set 7 1).set 12 1 }
      (fun t => t.pc == 0x222 && t.reg 3 == 7 && t.dt == 4 && t.st == 4 && t.beep) = true := by decide
/-- V45-11, V45-12. -/
theorem test_set_dt :
    ends 0xF415 (regs [(4, 5)]) (fun t => t.dt == 4) = true ∧
    ends 0xF415 { base with dt := 9 } (fun t => t.dt == 0) = true := by decide
/-- V45-15, V45-14. -/
theorem test_set_st :
    ends 0xF418 (regs [(4, 1)]) (fun t => t.st == 0 && t.beep) = true ∧
    ends 0xF418 { base with st := 9 } (fun t => t.st == 0 && !t.beep) = true := by decide

/-! ### Witnesses: states and operands that meet the hypotheses of each statement -/

/-- `base` with a word placed at `pc`. -/
def placed (w : Nat) (s : State) : State := s.withFetchWord 16 w

/-- StepKeepsInvariant, HostActionsKeepInvariant: a running state that is not the reset state. -/
theorem test_witness_invariant :
    let s : State := { base with pc := 0x10FE, i := 0xFFFF, keys := base.keys.set 3 1 }
    StateInv s ∧ step s = .next (next s) := by
  refine ⟨⟨by decide, by decide, by decide, by decide, ?_, by decide, ?_, by decide⟩, rfl⟩
  · show _ ∧ _; decide
  · intro op h; cases h

/-- The same for a halted state: each clause of `FaultRecord`. -/
theorem test_witness_fault_records :
    FaultRecord { base with fsm := .fault, faultCode := .fetchBounds, pc := 0xFFF, faultInfo := 0x1000 } ∧
    FaultRecord { base with fsm := .fault, faultCode := .dataBounds, i := 0xFFFF, faultInfo := 0xFFFF } ∧
    FaultRecord { base with fsm := .fault, faultCode := .stackOverflow, sp := 16, faultInfo := 16 } ∧
    FaultRecord { base with fsm := .fault, faultCode := .keyIndex, faultInfo := 16 } := by
  refine ⟨?_, ?_, ?_, ?_⟩ <;> (show _ ∧ _ ∧ _; decide)

/-- StepKeepsInvariant, BeepExactlyWhenSoundTimerCounts: a cycle that is answered with a next state, and beeps. -/
theorem test_witness_step :
    step (placed 0x6005 { base with st := 2 }) = .next (next (placed 0x6005 { base with st := 2 })) ∧
    (next (placed 0x6005 { base with st := 2 })).beep = true := ⟨rfl, by decide⟩

/-- OnlyResetLeavesFault. -/
theorem test_witness_halted : { base with fsm := .fault }.fsm = .fault := rfl

/-- LoadPortWritesOnlyInLoad, each clause: the ends of the range, and the addresses beside them. -/
theorem test_witness_load_port :
    State.reset.fsm = .load ∧ (0x200 ≤ 0x200 ∧ 0x200 ≤ 0xFFF) ∧ (0x200 ≤ 0xFFF ∧ 0xFFF ≤ 0xFFF) ∧ base.fsm ≠ .load ∧
    0x1FF < 0x200 ∧ 0xFFF < 0x1000 := by decide

/-- ImageStandsAtProgramStart: the longest image. -/
theorem test_witness_image : State.reset.fsm = .load ∧ (List.replicate 3584 (0xAA : Byte)).length ≤ 3584 :=
  ⟨rfl, by rw [List.length_replicate]⟩

/-- StepRunsDecodedInstruction, StepRunsPlacedWord: at the last address a fetch may start at. -/
theorem test_witness_decoded :
    let s := placed 0x6005 { base with pc := 0xFFE }
    s.fsm ≠ .fault ∧ s.pc.toNat + 1 ≤ 0xFFF ∧
    decode (wordOfBytes (s.memRead s.pc.toNat) (s.memRead (s.pc.toNat + 1))) = .instr (.ldVxNn 0 5) ∧
    decodeTableWord 16 0x6005 = some (.ldVxNn 0 5) := by decide

/-- FetchPastMemoryFaults. -/
theorem test_witness_fetch_past :
    { base with pc := 0xFFF }.fsm ≠ .fault ∧ 0xFFF ≤ { base with pc := 0xFFF }.pc.toNat := by decide

/-- UnknownWordIsRecorded, UnknownWordLivelocks. -/
theorem test_witness_unknown :
    let s := placed 0x5121 base
    s.fsm ≠ .fault ∧ s.pc.toNat + 1 ≤ 0xFFF ∧ decode s.fetchWord = .unknown 0x5121 ∧ step s = .next (next s) :=
  ⟨by decide, by decide, by decide, rfl⟩

/-- FaultsArePrecise, and the clause of CyclesFaultExactlyAsListed with a cause. -/
theorem test_witness_faults :
    let s := placed 0xF033 { base with i := 0xFFE }
    s.fsm ≠ .fault ∧ step s = .next (next s) ∧ (next s).fsm = .fault ∧ faultCause s = some (.dataBounds, 0x1000) :=
  ⟨by decide, rfl, by decide, by decide⟩

/-- CyclesFaultExactlyAsListed: no cause at the last address in range, for each kind of check. -/
theorem test_witness_no_fault :
    faultCause (placed 0xF033 { base with i := 0xFFD }) = none ∧ faultCause (placed 0xD010 { base with i := 0xFFFF }) = none ∧
    faultCause (placed 0x2400 { base with sp := 15 }) = none ∧ faultCause (placed 0xE59E (regs [(5, 15)])) = none := by
  decide

/-- EncodeOfDecode. -/
theorem test_witness_decode : decode 0x8F14 = .instr (.addVxVy 15 1) := by decide

/-- RetPopsAndResumesAfterCall, each clause at the ends of the stack. -/
theorem test_witness_ret :
    { base with sp := 1 }.sp.val = (0 : Fin 16).val + 1 ∧ { base with sp := 16 }.sp.val = (15 : Fin 16).val + 1 ∧
    base.sp = 0 := by decide

/-- CallPushesItsAddress, each clause at the ends of the stack. -/
theorem test_witness_call :
    base.sp.val = (0 : Fin 16).val ∧ { base with sp := 15 }.sp.val = (15 : Fin 16).val ∧ { base with sp := 16 }.sp = 16 := by
  decide

/-- SkipsCompareRegisters, the unknown words beside the two forms. -/
theorem test_witness_skip_words :
    (0x5121 : Word).toNat / 4096 = 5 ∧ (0x5121 : Word).toNat % 16 ≠ 0 ∧ (0x912F : Word).toNat / 4096 = 9 ∧
    (0x912F : Word).toNat % 16 ≠ 0 := by decide

/-- The cycle from `s` is answered with a next state. -/
def answers (s : State) : Bool :=
  match step s with
  | .next _ => true
  | _ => false

/-- The instruction is executed from `s`, with the next state `next s`. -/
theorem executes_next {i : Instr} {s : State} (hf : s.fsm ≠ .fault) (hp : s.pc.toNat < 0xFFF)
    (hd : decode s.fetchWord = .instr i) (hs : answers s = true) (hn : (next s).fsm ≠ .fault) :
    Executes i s (next s) := by
  refine ⟨hf, hp, hd, ?_, hn⟩
  unfold answers at hs
  unfold next
  split at hs
  · rename_i t ht; rw [ht]
  · cases hs

/-- CALL 0x204; JP 0x202; LD V0, 5; CALL 0x20A; RET; RET. -/
def nested : State := loaded ([0x22, 0x04, 0x12, 0x02, 0x60, 0x05] ++ [0x22, 0x0A, 0x00, 0xEE, 0x00, 0xEE])

/-- CallAndReturnPairUp: a subroutine with a plain instruction and a nested call. -/
theorem test_witness_call_and_return :
    let t := next nested
    let u := next (next (next t))
    Executes (.callNnn 0x204) nested t ∧ BalancedRun t u ∧ Executes .ret u (next u) := by
  intro t u
  refine ⟨executes_next (by decide) (by decide) (by decide) (by decide) (by decide), ?_,
    executes_next (by decide) (by decide) (by decide) (by decide) (by decide)⟩
  refine .plain (i := .ldVxNn 0 5) (executes_next (by decide) (by decide) (by decide) (by decide) (by decide)) rfl ?_
  exact .nested (nnn := 0x20A) (executes_next (by decide) (by decide) (by decide) (by decide) (by decide)) (.done _)
    (executes_next (by decide) (by decide) (by decide) (by decide) (by decide)) (.done _)

/-- The clauses X = F and X other than F of the arithmetic statements. -/
theorem test_witness_flag_register : (14 : Fin 16) ≠ 15 ∧ (15 : Fin 16) = 15 := by decide

/-- DecimalDigitsAreStored, both clauses where they meet. -/
theorem test_witness_digits :
    { base with i := 0xFFD }.i.toNat + 2 ≤ 0xFFF ∧ 0xFFF < { base with i := 0xFFE }.i.toNat + 2 := by decide

/-- RegistersAreStored, RegistersAreLoaded, both clauses where they meet. -/
theorem test_witness_register_list :
    { base with i := 0xFF0 }.i.toNat + (15 : Fin 16).val ≤ 0xFFF ∧
    0xFFF < { base with i := 0xFF1 }.i.toNat + (15 : Fin 16).val := by decide

/-- StoreThenLoadRestoresRegisters: the registers are overwritten between the store and the load. -/
theorem test_witness_store_load :
    let s : State := { regs [(0, 1), (1, 2)] with i := 0x400 }
    ∃ t u : State, s.i.toNat + (1 : Fin 16).val ≤ 0xFFF ∧ exec (.ldMemVx 1) s = .next t ∧ u.i = s.i ∧
      (∀ k ≤ (1 : Fin 16).val, u.memRead (s.i.toNat + k) = t.memRead (s.i.toNat + k)) ∧ u.reg 0 ≠ s.reg 0 :=
  ⟨_, { (next (placed 0xF155 { regs [(0, 1), (1, 2)] with i := 0x400 })) with v := Vector.replicate 16 9 }, by decide, rfl,
    by decide, by decide, by decide⟩

/-- StoredBytesAreFetched. -/
theorem test_witness_store_fetch :
    let s : State := { regs [(0, 0x71), (1, 0x05)] with i := 0x208 }
    ∃ t u : State, s.i.toNat + (1 : Fin 16).val ≤ 0xFFF ∧ (0 : Fin 16).val + 1 ≤ (1 : Fin 16).val ∧
      exec (.ldMemVx 1) s = .next t ∧ u.mem = t.mem ∧ u.pc.toNat = s.i.toNat + (0 : Fin 16).val :=
  ⟨_, { (({ regs [(0, 0x71), (1, 0x05)] with i := 0x208 } : State).memWriteBytes 0x208 [0x71, 0x05]) with pc := 0x208 },
    by decide, by decide, rfl, by decide, by decide⟩

/-- DrawFlipsSpriteCells: the range clauses where they meet, N = 0 past the end, and a covered and an uncovered cell. -/
theorem test_witness_draw :
    ((0 : BitVec 4).toNat = 0 ∧ 0xFFF < { base with i := 0xFFFF }.i.toNat) ∧
    { base with i := 0xFFE }.i.toNat + (2 : BitVec 4).toNat - 1 ≤ 0xFFF ∧
    (0 < (3 : BitVec 4).toNat ∧ 0xFFF < { base with i := 0xFFE }.i.toNat + (3 : BitVec 4).toNat - 1) ∧
    (SpriteCovers { screen [3] base with i := 0x4B } 0 0 1 (3 : Fin 2048).val ∧
      { screen [3] base with i := 0x4B }.cell 3 = true) ∧
    (∀ c, { base with i := 0x4B }.cell c = false) ∧ ¬ SpriteCovers { base with i := 0x4B } 0 0 1 4 := by
  refine ⟨by decide, by decide, by decide, ⟨⟨0, 3, by decide, by decide, by decide, by decide⟩, by decide⟩, ?_, ?_⟩
  · intro c
    simp [base, State.reset, State.cell]
  rintro ⟨row, col, hr, hc, hb, ht⟩
  obtain rfl : row = 0 := by omega
  obtain rfl : col = 4 := by omega
  revert hb; decide

/-- DrawingTwiceRestoresScreen: the second draw from the state the first one left, with the first's registers. -/
theorem test_witness_draw_twice :
    let s : State := { base with i := 0x4B }
    let t := next (placed 0xD011 s)
    let u : State := { s with fb := t.fb }
    ∃ t', ((1 : BitVec 4).toNat = 0 ∨ s.i.toNat + (1 : BitVec 4).toNat - 1 ≤ 0xFFF) ∧
      exec (.drwVxVyN 0 1 1) s = .next t' ∧ (∀ c, t'.cell c = t'.cell c) ∧ u.reg 0 = s.reg 0 ∧ u.reg 1 = s.reg 1 ∧
      u.i = s.i ∧ (∀ k < (1 : BitVec 4).toNat, u.memRead (s.i.toNat + k) = s.memRead (s.i.toNat + k)) :=
  ⟨_, by decide, rfl, fun _ => rfl, by decide, by decide, by decide, by decide⟩

/-- Assumption 20: on a screen whose covered cells were all set before the first draw, the second draw leaves VF = 0
although the sprite has set bits with on-screen targets (R202). -/
theorem test_second_draw_flag :
    ends 0xD011 { next (placed 0xD011 (screen [0, 1, 2, 3] { base with i := 0x4B })) with pc := 0x200 }
      (fun t => t.reg 15 == 0 && lit t [0, 1, 2, 3] == [true, true, true, true]) = true := by decide

/-- SkipsTestKey, both clauses where they meet. -/
theorem test_witness_key_index :
    ((regs [(5, 15)]).reg 5).toNat = (15 : Fin 16).val ∧ 16 ≤ ((regs [(5, 16)]).reg 5).toNat := by decide

/-- WaitForKeyTakesLowestKey, both clauses. -/
theorem test_witness_key_wait :
    let s : State := { base with keys := (base.keys.set 7 1).set 12 1 }
    s.keys[(7 : Fin 16)] ≠ 0 ∧ (∀ j : Fin 16, j < 7 → s.keys[j] = 0) ∧ (∀ j : Fin 16, base.keys[j] = 0) := by decide

/-- LD V0, 5; LD DT, V0; LD V1, 5; LD V2, DT; LD ST, V0; LD V1, 5. -/
def ticking : State := next (loaded ([0x60, 0x05, 0xF0, 0x15, 0x61, 0x05] ++ [0xF2, 0x07, 0xF0, 0x18, 0x61, 0x05]))

/-- TimersCountDownByCycles, both clauses with k = 1. -/
theorem test_witness_count_down :
    let s' := next ticking
    let t := next s'
    let u := next t
    let w := next u
    (Executes (.ldDtVx 0) ticking s' ∧ TickingRun (fun i => ∀ z, i ≠ .ldDtVx z) 1 s' t ∧ Executes (.ldVxDt 2) t u) ∧
    (Executes (.ldStVx 0) u w ∧ TickingRun (fun i => ∀ z, i ≠ .ldStVx z) 1 w (next w)) := by
  intro s' t u w
  have waits : ∀ (x : Fin 16) (nn : Byte) (s : State), ¬ Waits (.ldVxNn x nn) s := by
    rintro x nn s ⟨⟨y, hy⟩, -⟩; cases hy
  refine ⟨⟨executes_next (by decide) (by decide) (by decide) (by decide) (by decide), ?_,
    executes_next (by decide) (by decide) (by decide) (by decide) (by decide)⟩,
    executes_next (by decide) (by decide) (by decide) (by decide) (by decide), ?_⟩
  · exact .tick (i := .ldVxNn 1 5) (executes_next (by decide) (by decide) (by decide) (by decide) (by decide))
      (by intro z h; cases h) (waits _ _ _) (.done _)
  · exact .tick (i := .ldVxNn 1 5) (executes_next (by decide) (by decide) (by decide) (by decide) (by decide))
      (by intro z h; cases h) (waits _ _ _) (.done _)

/-- RegisterWritersAreListed: an instruction that writes V0 only, and the register V1. -/
theorem test_witness_register_writer :
    (∃ t, exec (.ldVxNn 0 5) base = .next t) ∧ ¬ (Instr.ldVxNn 0 5).writesReg 1 := ⟨⟨_, rfl⟩, by
  show ¬ (1 : Fin 16) = 0; decide⟩

/-- StateWritersAreListed: for each kind of state, an instruction that changes it. -/
theorem test_witness_state_writers :
    ends 0xA300 base (fun t => t.i != base.i) = true ∧ ends 0x220A base (fun t => t.slot 0 != base.slot 0) = true ∧
    ends 0x220A base (fun t => t.sp != base.sp) = true ∧
    ends 0xF415 (regs [(4, 9)]) (fun t => t.dt.toNat != 0 && t.dt.toNat != 0 - 1) = true ∧
    ends 0xF418 (regs [(4, 9)]) (fun t => t.st.toNat != 0 && t.st.toNat != 0 - 1) = true ∧
    ends 0xD011 { base with i := 0x4B } (fun t => t.cell 0 != base.cell 0) = true ∧
    ends 0xC30F base (fun t => t.rng != base.rng) = true ∧
    ends 0xF055 { regs [(0, 7)] with i := 0x400 } (fun t => t.memRead 0x400 != base.memRead 0x400) = true := by decide

end Sys2Proof.Tests
end

section
/-! PROOFS. The scope's two claims: reset meets the invariant (R6, R41, R270), and faults are precise (R11, R244). -/

namespace Sys2Proof

open Machine

/-- What a cycle of a block that is not halted leaves (R107, R244): a block that is ready, or the fault entry from the
state the cycle started in. -/
theorem step_ends_ready_or_faults {s t : State} (hs : s.fsm ≠ .fault) (h : step s = .next t) :
    t.fsm = .ready ∨ ∃ code info, t = s.deassertStrobes.raiseFault code info := by
  obtain ⟨hhalted, -⟩ | ⟨-, -, hfetch⟩ | ⟨-, -, op, -, hunknown⟩ | ⟨-, -, i, -, hexec⟩ := step_cases s
  · exact absurd hhalted hs
  · exact .inr ⟨_, _, Host.Outcome.next.inj (h.symm.trans hfetch)⟩
  · have ht := Host.Outcome.next.inj (h.symm.trans hunknown)
    exact .inl (ht ▸ rfl)
  · obtain ⟨u, a, hfinish, -⟩ | ⟨code, info, hfault, -⟩ := exec_answers i s.deassertStrobes
    · have ht := Host.Outcome.next.inj (h.symm.trans (hexec.trans hfinish))
      exact .inl (ht ▸ State.finish_fsm u a)
    · exact .inr ⟨code, info, Host.Outcome.next.inj (h.symm.trans (hexec.trans hfault))⟩

/-- Settles O14: the only cycle that ends halted is the fault entry, which writes FSM_STATE, FAULT_CODE and FAULT_INFO
over the state with its strobes deasserted. -/
theorem faultsArePrecise : Obligations.FaultsArePrecise := by
  intro s t hs hstep ht
  obtain hready | ⟨code, info, rfl⟩ := step_ends_ready_or_faults hs hstep
  · rw [hready] at ht
    cases ht
  · rfl

theorem stateInv_resetWith (font : Font) (seed : Nat) : StateInv (State.resetWith font seed) where
  memory := State.resetWith_wf font seed
  pc := by simp
  stack j := by simp
  keys k := by simp
  fault := by simp [FaultRecord]
  unknown _ := by simp
  strobe op hop := by simp at hop
  quiet _ := by simp

/-- Settles O2: the invariant holds for every font and seed, and `State.reset` is the reset with this machine's own. -/
theorem resetStateMeetsInvariant : Obligations.ResetStateMeetsInvariant :=
  ⟨State.resetWith_default ▸ stateInv_resetWith Params.font Params.seed, State.resetWith_default.symm, stateInv_resetWith⟩

end Sys2Proof
end

section
/-! PROOFS. The state's own claims (spec 10_state.md): which pieces of state an instruction can write (R22, R28 to R37, R67),
and that every cycle keeps the invariant (R27, R39, R60, R103, R121). Both rest on one inversion of `exec`,
`exec_has_effect`. -/

namespace Sys2Proof

open Machine

/-! ### Frames of the operations that `Laws/Claims` does not name -/

theorem keptBut_push {c : Part → Prop} {s u : State} (w : Word) (h : u.sp.val < 16) (hsp : c .sp)
    (hslot : ∀ j, c (.stack j)) (hu : KeptBut c s u) : KeptBut c s (u.push w h) := by
  intro p hp
  cases p with
  | sp => exact absurd hsp hp
  | stack j => exact absurd (hslot j) hp
  | _ => exact hu _ hp

theorem keptBut_pop {c : Part → Prop} {s u : State} (hsp : c .sp) (hu : KeptBut c s u) : KeptBut c s u.pop := by
  intro p hp
  cases p with
  | sp => exact absurd hsp hp
  | _ => exact hu _ hp

theorem keptBut_clearScreen {c : Part → Prop} {s u : State} (hscreen : ∀ d, c (.screen d)) (hu : KeptBut c s u) :
    KeptBut c s u.clearScreen := by
  intro p hp
  cases p with
  | screen d => exact absurd (hscreen d) hp
  | _ => exact hu _ hp

theorem keptBut_flipCell {c : Part → Prop} {s u : State} (d : Fin 2048) (hscreen : ∀ d, c (.screen d))
    (hu : KeptBut c s u) : KeptBut c s (u.flipCell d) := by
  intro p hp
  cases p with
  | screen d => exact absurd (hscreen d) hp
  | _ => exact hu _ hp

theorem keptBut_setRng {c : Part → Prop} {s u : State} (r : Rng) (hrng : c .rng) (hu : KeptBut c s u) :
    KeptBut c s (u.setRng r) := by
  intro p hp
  cases p with
  | rng => exact absurd hrng hp
  | _ => exact hu _ hp

theorem keptBut_setDt {c : Part → Prop} {s u : State} (b : Byte) (hu : KeptBut c s u) : KeptBut c s (u.setDt b) := by
  intro p hp
  cases p <;> exact hu _ hp

theorem keptBut_setSt {c : Part → Prop} {s u : State} (b : Byte) (hu : KeptBut c s u) : KeptBut c s (u.setSt b) := by
  intro p hp
  cases p <;> exact hu _ hp

theorem keptBut_loadRegs {c : Part → Prop} {s u : State} (x : Fin 16) (hreg : ∀ j ≤ x, c (.reg j))
    (hu : KeptBut c s u) : KeptBut c s (u.loadRegs x) := by
  intro p hp
  have hkept := hu p hp
  cases p with
  | reg j =>
    have hj : ¬ j ≤ x := fun hj => hp (hreg j hj)
    simpa [Kept, State.reg_loadRegs, hj] using hkept
  | _ => simpa [Kept] using hkept

theorem keptBut_drawSprite {c : Part → Prop} {s u : State} (x0 y0 n : Nat) (hflag : c (.reg flagReg))
    (hscreen : ∀ d, c (.screen d)) (hu : KeptBut c s u) : KeptBut c s (u.drawSprite x0 y0 n) := by
  refine State.drawSprite_keeps (P := KeptBut c s) (fun v t hv => ?_) u x0 y0 n hu
  unfold State.drawPixel
  split
  · refine keptBut_flipCell _ hscreen ?_
    split
    · exact keptBut_setReg _ _ hflag hv
    · exact hv
  · exact hv

/-- The fault entry writes the status registers alone (R244). -/
theorem keptBut_raiseFault (s : State) (code : FaultCode) (info : Nat) :
    KeptBut (· = .status) s (s.raiseFault code info) := by
  intro p hp
  cases p with
  | status => exact absurd rfl hp
  | _ => rfl

/-! ### What an instruction can do, said once -/

/-- The pieces of state an instruction that completes may write (R22, R28 to R37, R67). -/
def Instr.mayWrite (i : Instr) : Part → Prop
  | .reg j => i.writesReg j
  | .index => (∃ nnn, i = .ldINnn nnn) ∨ (∃ x, i = .addIVx x) ∨ ∃ x, i = .ldFVx x
  | .mem _ => (∃ x, i = .ldBVx x) ∨ ∃ x, i = .ldMemVx x
  | .stack _ => ∃ nnn, i = .callNnn nnn
  | .sp => (∃ nnn, i = .callNnn nnn) ∨ i = .ret
  | .screen _ => i = .cls ∨ ∃ x y n, i = .drwVxVyN x y n
  | .keys => False
  | .rng => ∃ x nn, i = .rndVxNn x nn
  | .status => False

/-- The outcomes an instruction executed in `s` can have: no jump, a jump to at most 0xFFF + 0xFF (R122, R123, R130), or one
to two past a stacked address (R121). -/
inductive AdvanceInReach (s : State) : Advance → Prop
  | next : AdvanceInReach s .next
  | skip (c : Bool) : AdvanceInReach s (.skip c)
  | wait : AdvanceInReach s .wait
  | jump {target : Nat} (h : target ≤ 0x10FE) : AdvanceInReach s (.jump target)
  | resume (j : Fin 16) : AdvanceInReach s (.jump ((s.slot j).toNat + 2))

/-- The instruction's own effect on `s` left `u`, with the outcome `a`. -/
structure Effect (i : Instr) (s u : State) (a : Advance) : Prop where
  kept : KeptBut i.mayWrite s u
  /-- only FX15 writes DT before the timer step (R31) -/
  dt : u.dt = s.dt ∨ ∃ x, i = .ldDtVx x
  /-- only FX18 writes ST before the timer step (R32) -/
  st : u.st = s.st ∨ ∃ x, i = .ldStVx x
  /-- a pushed value is the address of the instruction (R123) -/
  slots : ∀ j, u.slot j = s.slot j ∨ u.slot j = s.pc
  /-- the advance starts from the address of the instruction (R106) -/
  pc : u.pc = s.pc
  advance : AdvanceInReach s a

/-- An effect on the other pieces of state leaves the timers and the stack alone. -/
theorem Effect.of_kept {i : Instr} {s u : State} {a : Advance} (hkept : KeptBut i.mayWrite s u) (hdt : u.dt = s.dt)
    (hst : u.st = s.st) (hstack : u.stack = s.stack) (hpc : u.pc = s.pc) (ha : AdvanceInReach s a) :
    Effect i s u a :=
  ⟨hkept, .inl hdt, .inl hst, fun j => .inl (State.slot_congr hstack j), hpc, ha⟩

theorem Effect.refl {i : Instr} {s : State} {a : Advance} (ha : AdvanceInReach s a) : Effect i s s a :=
  .of_kept (keptBut_refl s) rfl rfl rfl rfl ha

theorem Effect.setReg {i : Instr} {s u : State} {a : Advance} (h : Effect i s u a) {x : Fin 16} (b : Byte)
    (hx : i.writesReg x) : Effect i s (u.setReg x b) a :=
  ⟨keptBut_setReg x b hx h.kept, h.dt, h.st, h.slots, h.pc, h.advance⟩

theorem Effect.setI {i : Instr} {s u : State} {a : Advance} (h : Effect i s u a) (w : Word)
    (hi : i.mayWrite .index) : Effect i s (u.setI w) a :=
  ⟨keptBut_setI w hi h.kept, h.dt, h.st, h.slots, h.pc, h.advance⟩

theorem effect_setReg {i : Instr} (s : State) {x : Fin 16} (b : Byte) (hx : i.writesReg x) :
    Effect i s (s.setReg x b) .next :=
  (Effect.refl .next).setReg b hx

/-- 8XY4 to 8XYE: the flag, then the result. -/
theorem effect_setFlag_setReg {i : Instr} (s : State) {x : Fin 16} (flag b : Byte) (hflag : i.writesReg flagReg)
    (hx : i.writesReg x) : Effect i s ((s.setReg flagReg flag).setReg x b) .next :=
  (effect_setReg s flag hflag).setReg b hx

theorem effect_memWriteBytes {i : Instr} (s : State) (a : Nat) (bs : List Byte) (hmem : ∀ n, i.mayWrite (.mem n)) :
    Effect i s (s.memWriteBytes a bs) .next :=
  .of_kept (keptBut_memWriteBytes a bs (fun _ _ => hmem _) (keptBut_refl s)) (by simp) (by simp) (by simp) (by simp) .next

theorem effect_push (nnn : BitVec 12) (s : State) (h : s.sp.val < 16) :
    Effect (.callNnn nnn) s (s.push s.pc h) (.jump nnn.toNat) where
  kept := keptBut_push s.pc h (.inl ⟨nnn, rfl⟩) (fun _ => ⟨nnn, rfl⟩) (keptBut_refl s)
  dt := .inl rfl
  st := .inl rfl
  slots j := by
    rw [State.slot_push]
    split
    · exact .inr rfl
    · exact .inl rfl
  pc := rfl
  advance := .jump (by omega)

/-- The answer `r` of the instruction `i` executed in `s`: the end of the cycle after the instruction's effect, or the fault
entry. -/
def AnswersWith (i : Instr) (s : State) (r : Result) : Prop :=
  (∃ u a, r = .next (u.finish a) ∧ Effect i s u a) ∨ ∃ code info, r = .next (s.raiseFault code info)

theorem AnswersWith.of_effect {i : Instr} {s u : State} {a : Advance} (h : Effect i s u a) :
    AnswersWith i s (endCycle a u) :=
  .inl ⟨u, a, rfl, h⟩

theorem answersWith_faultCycle (i : Instr) (s : State) (code : FaultCode) (info : Nat) :
    AnswersWith i s (faultCycle code info s) :=
  .inr ⟨code, info, rfl⟩

theorem AnswersWith.withDataRange {i : Instr} {s : State} {body : Result} (n : Nat) (h : AnswersWith i s body) :
    AnswersWith i s (Machine.withDataRange n s body) := by
  obtain ⟨-, hfits⟩ | ⟨-, -, hfaults⟩ := withDataRange_cases n s body
  · rwa [hfits]
  · rw [hfaults]
    exact answersWith_faultCycle i s _ _

theorem answersWith_withKeyIndex {i : Instr} {s : State} {body : Fin 16 → Result} (x : Fin 16)
    (h : ∀ k, AnswersWith i s (body k)) : AnswersWith i s (withKeyIndex x s body) := by
  unfold withKeyIndex
  split
  · exact h _
  · exact answersWith_faultCycle i s _ _

/-- The control flow of RET (R121): two past the popped address, or the common advance on an empty stack. -/
theorem execRet_answersWith (s : State) : AnswersWith .ret s (execRet s) := by
  unfold execRet
  split
  · have hpopped : KeptBut Instr.ret.mayWrite s s.pop := keptBut_pop (.inr rfl) (keptBut_refl s)
    exact .of_effect (.of_kept hpopped rfl rfl rfl rfl (.resume ⟨s.sp.val - 1, by omega⟩))
  · exact .of_effect (.refl .next)

theorem execCallNnn_answersWith (nnn : BitVec 12) (s : State) : AnswersWith (.callNnn nnn) s (execCallNnn nnn s) := by
  unfold execCallNnn
  split
  · exact .of_effect (effect_push nnn s _)
  · exact answersWith_faultCycle _ s _ _

theorem execLdVxK_answersWith (x : Fin 16) (s : State) : AnswersWith (.ldVxK x) s (execLdVxK x s) := by
  unfold execLdVxK
  split
  · exact .of_effect (effect_setReg s _ rfl)
  · exact .of_effect (.refl .wait)

theorem execLdFVx_answersWith (x : Fin 16) (s : State) : AnswersWith (.ldFVx x) s (execLdFVx x s) := by
  refine .of_effect (a := .next) ?_
  split
  · exact (Effect.refl .next).setI _ (.inr (.inr ⟨x, rfl⟩))
  · exact .refl .next

/-- One inversion for all instructions: what each writes before the end of the cycle, and where it can jump. -/
theorem exec_has_effect (i : Instr) (s : State) : AnswersWith i s (exec i s) := by
  cases i with
  | ret => exact execRet_answersWith s
  | callNnn nnn => exact execCallNnn_answersWith nnn s
  | jpNnn nnn => exact .of_effect (.refl (.jump (by omega)))
  | jpV0Nnn nnn => exact .of_effect (.refl (.jump (by omega)))
  | seVxNn x nn => exact .of_effect (.refl (.skip _))
  | sneVxNn x nn => exact .of_effect (.refl (.skip _))
  | seVxVy x y => exact .of_effect (.refl (.skip _))
  | sneVxVy x y => exact .of_effect (.refl (.skip _))
  | skpVx x => exact answersWith_withKeyIndex x fun k => .of_effect (.refl (.skip (s.keyPressed k)))
  | sknpVx x => exact answersWith_withKeyIndex x fun k => .of_effect (.refl (.skip (!s.keyPressed k)))
  | ldVxNn x nn => exact .of_effect (effect_setReg s _ rfl)
  | addVxNn x nn => exact .of_effect (effect_setReg s _ rfl)
  | ldVxVy x y => exact .of_effect (effect_setReg s _ rfl)
  | orVxVy x y => exact .of_effect (effect_setReg s _ rfl)
  | andVxVy x y => exact .of_effect (effect_setReg s _ rfl)
  | xorVxVy x y => exact .of_effect (effect_setReg s _ rfl)
  | ldVxDt x => exact .of_effect (effect_setReg s _ rfl)
  | ldVxK x => exact execLdVxK_answersWith x s
  | addVxVy x y => exact .of_effect (effect_setFlag_setReg s _ _ (.inl rfl) (.inr rfl))
  | subVxVy x y => exact .of_effect (effect_setFlag_setReg s _ _ (.inl rfl) (.inr rfl))
  | shrVx x y => exact .of_effect (effect_setFlag_setReg s _ _ (.inl rfl) (.inr rfl))
  | subnVxVy x y => exact .of_effect (effect_setFlag_setReg s _ _ (.inl rfl) (.inr rfl))
  | shlVx x y => exact .of_effect (effect_setFlag_setReg s _ _ (.inl rfl) (.inr rfl))
  | rndVxNn x nn =>
    have hrng : Effect (.rndVxNn x nn) s (s.setRng (prngNext s.rng).2) .next :=
      .of_kept (keptBut_setRng _ ⟨x, nn, rfl⟩ (keptBut_refl s)) rfl rfl rfl rfl .next
    exact .of_effect (hrng.setReg _ rfl)
  | ldINnn nnn => exact .of_effect ((Effect.refl .next).setI _ (.inl ⟨nnn, rfl⟩))
  | addIVx x => exact .of_effect ((Effect.refl .next).setI _ (.inr (.inl ⟨x, rfl⟩)))
  | ldFVx x => exact execLdFVx_answersWith x s
  | ldBVx x => exact .withDataRange _ (.of_effect (effect_memWriteBytes s _ _ fun _ => .inl ⟨x, rfl⟩))
  | ldMemVx x => exact .withDataRange _ (.of_effect (effect_memWriteBytes s _ _ fun _ => .inr ⟨x, rfl⟩))
  | ldVxMem x =>
    have hload : Effect (.ldVxMem x) s (s.loadRegs x) .next :=
      .of_kept (keptBut_loadRegs x (fun _ hj => hj) (keptBut_refl s)) (s.loadRegs_dt x) (s.loadRegs_st x)
        (s.loadRegs_stack x) (s.loadRegs_pc x) .next
    exact .withDataRange _ (.of_effect hload)
  | cls =>
    have hclear : Effect .cls s s.clearScreen .next :=
      .of_kept (keptBut_clearScreen (fun _ => .inl rfl) (keptBut_refl s)) rfl rfl rfl rfl .next
    exact .of_effect hclear
  | drwVxVyN x y n =>
    have hcleared : KeptBut (Instr.drwVxVyN x y n).mayWrite s (s.setReg flagReg 0) :=
      keptBut_setReg flagReg 0 rfl (keptBut_refl s)
    have hdraw : KeptBut (Instr.drwVxVyN x y n).mayWrite s
        ((s.setReg flagReg 0).drawSprite (s.reg x).toNat (s.reg y).toNat n.toNat) :=
      keptBut_drawSprite _ _ _ rfl (fun _ => .inr ⟨x, y, n, rfl⟩) hcleared
    exact .withDataRange _ (.of_effect (Effect.of_kept hdraw (by simp) (by simp) (by simp) (by simp) .next))
  | ldDtVx x =>
    exact .of_effect ⟨keptBut_setDt _ (keptBut_refl s), .inr ⟨x, rfl⟩, .inl rfl, fun _ => .inl rfl, rfl, .next⟩
  | ldStVx x =>
    exact .of_effect ⟨keptBut_setSt _ (keptBut_refl s), .inl rfl, .inr ⟨x, rfl⟩, fun _ => .inl rfl, rfl, .next⟩

/-- The inversion, for an answer in hand. -/
theorem exec_next_cases {i : Instr} {s t : State} (h : exec i s = .next t) :
    (∃ u a, t = u.finish a ∧ Effect i s u a) ∨ ∃ code info, t = s.raiseFault code info := by
  obtain ⟨u, a, hnext, heffect⟩ | ⟨code, info, hfault⟩ := exec_has_effect i s
  · exact .inl ⟨u, a, Host.Outcome.next.inj (h.symm.trans hnext), heffect⟩
  · exact .inr ⟨code, info, Host.Outcome.next.inj (h.symm.trans hfault)⟩

/-! ### The writers of each piece of state -/

/-- A piece of state changes only by an instruction that may write it, but for the status, which a fault writes. -/
theorem exec_keeps {i : Instr} {s t : State} (h : exec i s = .next t) {p : Part} (hstatus : p ≠ .status)
    (hp : ¬ i.mayWrite p) : Kept s t p := by
  obtain ⟨u, a, rfl, heffect⟩ | ⟨code, info, rfl⟩ := exec_next_cases h
  · exact keptBut_finish a heffect.kept p hp
  · exact keptBut_raiseFault s code info p hstatus

/-- No instruction writes UNK_SEEN or LAST_UNKNOWN, and no fault does (R39, R241). -/
theorem exec_keeps_unknown {i : Instr} {s t : State} (h : exec i s = .next t) :
    t.unkSeen = s.unkSeen ∧ t.lastUnknown = s.lastUnknown := by
  obtain ⟨u, a, rfl, heffect⟩ | ⟨code, info, rfl⟩ := exec_next_cases h
  · obtain ⟨-, -, hseen, hlast, -⟩ := keptBut_finish a heffect.kept .status id
    exact ⟨hseen, hlast⟩
  · exact ⟨rfl, rfl⟩

/-- A timer after the end of a cycle (R31, R32, R107): as it was when the instruction waited, else counted down once. -/
theorem waited_or_countedDown (b : Byte) {waits : Prop} [Decidable waits] :
    (if waits then b else countDown b).toNat = b.toNat ∨ (if waits then b else countDown b).toNat = b.toNat - 1 := by
  split
  · exact .inl rfl
  · exact .inr (countDown_toNat b)

theorem exec_dt {i : Instr} {s t : State} (h : exec i s = .next t) :
    t.dt.toNat = s.dt.toNat ∨ t.dt.toNat = s.dt.toNat - 1 ∨ ∃ x, i = .ldDtVx x := by
  obtain ⟨u, a, rfl, heffect⟩ | ⟨code, info, rfl⟩ := exec_next_cases h
  · obtain hkept | hwriter := heffect.dt
    · rw [State.finish_dt, hkept]
      exact (waited_or_countedDown s.dt).imp_right .inl
    · exact .inr (.inr hwriter)
  · exact .inl rfl

theorem exec_st {i : Instr} {s t : State} (h : exec i s = .next t) :
    t.st.toNat = s.st.toNat ∨ t.st.toNat = s.st.toNat - 1 ∨ ∃ x, i = .ldStVx x := by
  obtain ⟨u, a, rfl, heffect⟩ | ⟨code, info, rfl⟩ := exec_next_cases h
  · obtain hkept | hwriter := heffect.st
    · rw [State.finish_st, hkept]
      exact (waited_or_countedDown s.st).imp_right .inl
    · exact .inr (.inr hwriter)
  · exact .inl rfl

/-- Settles O56: a register is one of the pieces of state `exec_keeps` speaks of. -/
theorem registerWritersAreListed : Obligations.RegisterWritersAreListed :=
  fun _ _ _ j h hj => exec_keeps h (p := .reg j) nofun hj

/-- Settles O57: each clause is `exec_keeps` for one piece of state, read backwards, or the timers' own lemma. -/
theorem stateWritersAreListed : Obligations.StateWritersAreListed := by
  intro i s t h
  have writer (p : Part) (hstatus : p ≠ .status) (hchanged : ¬ Kept s t p) : i.mayWrite p :=
    not_imp_comm.1 (exec_keeps h hstatus) hchanged
  obtain ⟨hseen, hlast⟩ := exec_keeps_unknown h
  exact ⟨writer .index nofun, fun j => writer (.stack j) nofun, writer .sp nofun,
    fun hsame hdown => ((exec_dt h).resolve_left hsame).resolve_left hdown,
    fun hsame hdown => ((exec_st h).resolve_left hsame).resolve_left hdown,
    exec_keeps h (p := .keys) nofun id, fun c => writer (.screen c) nofun,
    writer .rng nofun, fun a => writer (.mem a) nofun, hseen, hlast⟩

/-! ### Bounds on pc and on the stack slots -/

/-- R27: from a `pc` a fetch can start at and slots that hold such addresses, no outcome reaches past 0x10FE. -/
theorem newPc_le {s : State} {a : Advance} (ha : AdvanceInReach s a) (hpc : s.pc.toNat < 0xFFF)
    (hslots : ∀ j, (s.slot j).toNat ≤ 0xFFE) : (a.newPc s.pc).toNat ≤ 0x10FE := by
  cases ha with
  | next => rw [Advance.newPc_next]; omega
  | skip c => rw [Advance.newPc_skip]; split <;> omega
  | wait => rw [Advance.newPc_wait]; omega
  | jump h => rw [Advance.newPc_jump]; omega
  | resume j =>
    have := hslots j
    rw [Advance.newPc_jump]
    omega

/-- An instruction leaves a stack slot as it was, or puts its own address there (R123). -/
theorem exec_slot {i : Instr} {s t : State} (h : exec i s = .next t) (j : Fin 16) :
    t.slot j = s.slot j ∨ t.slot j = s.pc := by
  obtain ⟨u, a, rfl, heffect⟩ | ⟨code, info, rfl⟩ := exec_next_cases h
  · exact State.finish_slot u a j ▸ heffect.slots j
  · exact .inl rfl

/-- R27: no instruction moves `pc` past 0x10FE, so that `pc` never wraps. -/
theorem exec_pc_le {i : Instr} {s t : State} (h : exec i s = .next t) (hpc : s.pc.toNat < 0xFFF)
    (hslots : ∀ j, (s.slot j).toNat ≤ 0xFFE) : t.pc.toNat ≤ 0x10FE := by
  obtain ⟨u, a, rfl, heffect⟩ | ⟨code, info, rfl⟩ := exec_next_cases h
  · rw [State.finish_pc, heffect.pc]
    exact newPc_le heffect.advance hpc hslots
  · show s.pc.toNat ≤ 0x10FE
    omega

/-! ### The invariant -/

/-- A block that is not halted holds the cleared fault registers (R39). -/
theorem FaultRecord.cleared {s : State} (h : FaultRecord s) (hs : s.fsm ≠ .fault) :
    s.faultCode = .none ∧ s.faultInfo = 0 := by
  unfold FaultRecord at h
  cases hcode : s.faultCode with
  | none =>
    rw [hcode] at h
    exact ⟨rfl, h.2⟩
  | _ =>
    rw [hcode] at h
    exact absurd h.1 hs

theorem faultRecord_of_cleared {s : State} (hcode : s.faultCode = .none) (hinfo : s.faultInfo = 0)
    (hs : s.fsm ≠ .fault) : FaultRecord s := by
  unfold FaultRecord
  rw [hcode]
  exact ⟨hs, hinfo⟩

/-- The fetch fault records the `pc` that the halted block holds (R103, R242). -/
theorem faultRecord_fetchBounds {s : State} (hlow : 0xFFF ≤ s.pc.toNat) :
    FaultRecord (s.raiseFault .fetchBounds (max s.pc.toNat 0x1000)) := by
  have := s.pc.isLt
  refine ⟨rfl, hlow, ?_⟩
  rw [State.raiseFault_faultInfo, State.raiseFault_pc, BitVec.toNat_ofNat]
  omega

theorem faultRecord_dataBounds {s : State} (hi : 0xFF0 < s.i.toNat) :
    FaultRecord (s.raiseFault .dataBounds (max s.i.toNat 0x1000)) := by
  have := s.i.isLt
  refine ⟨rfl, hi, ?_⟩
  rw [State.raiseFault_faultInfo, State.raiseFault_i, BitVec.toNat_ofNat]
  omega

theorem faultRecord_keyIndex {s : State} (x : Fin 16) (hx : 16 ≤ (s.reg x).toNat) :
    FaultRecord (s.raiseFault .keyIndex (s.reg x).toNat) := by
  have := (s.reg x).isLt
  refine ⟨rfl, ?_⟩
  rw [State.raiseFault_faultInfo, BitVec.toNat_ofNat]
  omega

/-- A fault of an instruction records what the halted block still holds (R242, R244). -/
theorem faultRecord_of_execFaults {i : Instr} {s : State} {code : FaultCode} {info : Nat}
    (h : ExecFaults i s code info) : FaultRecord (s.raiseFault code info) := by
  cases i with
  | callNnn nnn =>
    obtain ⟨rfl, rfl, hsp⟩ := h
    exact ⟨rfl, Fin.ext hsp, rfl⟩
  | drwVxVyN x y n =>
    obtain ⟨rfl, rfl, -, hi⟩ := h
    exact faultRecord_dataBounds (by omega)
  | ldBVx x =>
    obtain ⟨rfl, rfl, hi⟩ := h
    exact faultRecord_dataBounds (by omega)
  | ldMemVx x =>
    obtain ⟨rfl, rfl, hi⟩ := h
    exact faultRecord_dataBounds (by omega)
  | ldVxMem x =>
    obtain ⟨rfl, rfl, hi⟩ := h
    exact faultRecord_dataBounds (by omega)
  | skpVx x =>
    obtain ⟨rfl, rfl, hx⟩ := h
    exact faultRecord_keyIndex x hx
  | sknpVx x =>
    obtain ⟨rfl, rfl, hx⟩ := h
    exact faultRecord_keyIndex x hx
  | _ => exact h.elim

/-- A cycle starts with both strobes deasserted (R107), a halted block's too (R101). -/
theorem StateInv.deassertStrobes {s : State} (h : StateInv s) : StateInv s.deassertStrobes :=
  ⟨h.memory, h.pc, h.stack, h.keys, h.fault, h.unknown, nofun, fun _ => ⟨rfl, rfl⟩⟩

/-- The fault entry keeps the invariant when its code and info are true of the state and no strobe is asserted. -/
theorem StateInv.raiseFault {s : State} {code : FaultCode} {info : Nat} (h : StateInv s) (hbeep : s.beep = false)
    (hstrobe : s.unknownStrobe = none) (hrecord : FaultRecord (s.raiseFault code info)) :
    StateInv (s.raiseFault code info) :=
  ⟨h.memory, h.pc, h.stack, h.keys, hrecord, h.unknown, h.strobe, fun _ => ⟨hbeep, hstrobe⟩⟩

/-- The block records the unknown word that its strobe carries (R109, R241). -/
theorem StateInv.markUnknown {s : State} (h : StateInv s) (hs : s.fsm ≠ .fault) (op : Word) :
    StateInv (s.markUnknown op) :=
  ⟨h.memory, h.pc, h.stack, h.keys, h.fault, nofun, fun _ hop => ⟨rfl, Option.some.inj hop⟩,
    fun hfault => absurd hfault hs⟩

theorem StateInv.timerStep {s : State} (h : StateInv s) (hs : s.fsm ≠ .fault) : StateInv s.timerStep :=
  ⟨h.memory, h.pc, h.stack, h.keys, h.fault, h.unknown, h.strobe, fun hfault => absurd hfault hs⟩

/-- The end of a cycle that did not fault (R107). -/
theorem StateInv.setReady {s : State} (h : StateInv s) (hs : s.fsm ≠ .fault) : StateInv (s.setFsm .ready) := by
  obtain ⟨hcode, hinfo⟩ := h.fault.cleared hs
  exact ⟨h.memory, h.pc, h.stack, h.keys, faultRecord_of_cleared hcode hinfo nofun, h.unknown, h.strobe, nofun⟩

/-- The unknown-opcode cycle keeps the invariant, for both values of `UNK_RUNS_TIMERS` (R109). -/
theorem StateInv.unknownOpcodeWith {s : State} (h : StateInv s) (hs : s.fsm ≠ .fault) (runsTimers : Bool) (op : Word) :
    StateInv (unknownOpcodeWith runsTimers op s) := by
  have hmarked := h.markUnknown hs op
  cases runsTimers with
  | false => exact hmarked.setReady hs
  | true => exact (hmarked.timerStep hs).setReady hs

/-- An instruction executed in a block that is not halted, from a `pc` a fetch can start at, keeps the invariant. -/
theorem StateInv.exec {i : Instr} {s t : State} (h : StateInv s) (hs : s.fsm ≠ .fault) (hpc : s.pc.toNat < 0xFFF)
    (hbeep : s.beep = false) (hstrobe : s.unknownStrobe = none) (ht : exec i s = .next t) : StateInv t := by
  obtain ⟨u, a, hnext, hbody, -⟩ | ⟨code, info, hfault, hcause⟩ := exec_answers i s
  · obtain rfl := Host.Outcome.next.inj (ht.symm.trans hnext)
    obtain ⟨hcode, hinfo⟩ := h.fault.cleared hs
    exact {
      memory := State.finish_mem u a ▸ hbody.memory h.memory
      pc := exec_pc_le ht hpc h.stack
      stack := fun j => by
        obtain hsame | hpushed := exec_slot ht j
        · exact hsame ▸ h.stack j
        · rw [hpushed]
          omega
      keys := by simpa [hbody.keys] using h.keys
      fault := faultRecord_of_cleared (by simpa [hbody.faultCode] using hcode) (by simpa [hbody.faultInfo] using hinfo)
        (by simp)
      unknown := by simpa [hbody.unkSeen, hbody.lastUnknown] using h.unknown
      strobe := by simp [hbody.unknownStrobe, hstrobe]
      quiet := by simp }
  · obtain rfl := Host.Outcome.next.inj (ht.symm.trans hfault)
    exact h.raiseFault hbeep hstrobe (faultRecord_of_execFaults hcause)

/-- Settles O3: each of the four ways a cycle can end (`step_cases`) keeps the invariant. -/
theorem stepKeepsInvariant : Obligations.StepKeepsInvariant := by
  intro s t h ht
  obtain ⟨-, hhalted⟩ | ⟨-, hpc, hfetch⟩ | ⟨hs, -, op, -, hunknown⟩ | ⟨hs, hpc, i, -, hexec⟩ := step_cases s
  · obtain rfl := Host.Outcome.next.inj (ht.symm.trans hhalted)
    exact h.deassertStrobes
  · obtain rfl := Host.Outcome.next.inj (ht.symm.trans hfetch)
    exact h.deassertStrobes.raiseFault rfl rfl (faultRecord_fetchBounds hpc)
  · obtain rfl := Host.Outcome.next.inj (ht.symm.trans hunknown)
    exact h.deassertStrobes.unknownOpcodeWith hs _ op
  · exact h.deassertStrobes.exec hs hpc rfl rfl (hexec.symm.trans ht)

end Sys2Proof
end

section
/-! PROOFS. Memory's own claims (spec 20_memory.md): the fetch sees two stored bytes, the lower-addressed one as the high
byte (R65, R75), and so a placed word runs as its own instruction (R92, R102). -/

namespace Sys2Proof

open Machine

/-! ### The fetched word -/

theorem wordOfBytes_toNat (hi lo : Byte) : (wordOfBytes hi lo).toNat = hi.toNat * 256 + lo.toNat := by
  unfold wordOfBytes
  rw [BitVec.toNat_append, ← Nat.shiftLeft_add_eq_or_of_lt lo.isLt, Nat.shiftLeft_eq]

/-- R65: a fetch at the byte `k` of a stored list sees that byte as the high one and its successor as the low one. -/
theorem fetchWord_of_memWriteBytes {s u : State} {a k : Nat} {bs : List Byte} (hk : k + 1 < bs.length)
    (hfits : a + bs.length ≤ 0x1000) (hmem : u.mem = (s.memWriteBytes a bs).mem) (hpc : u.pc.toNat = a + k) :
    u.fetchWord = wordOfBytes bs[k] bs[k + 1] := by
  have hstored (j : Nat) (hj : j < bs.length) : u.memRead (a + j) = bs[j] :=
    (State.memRead_congr hmem _).trans (State.memRead_memWriteBytes_inside s a bs j hj hfits)
  unfold State.fetchWord
  rw [hpc, hstored k (by omega), Nat.add_assoc, hstored (k + 1) hk]

/-- R185: FX55 whose last byte is in range completes, with V0 to VX stored from `I` on. -/
theorem exec_ldMemVx_of_fits {x : Fin 16} {s : State} (h : s.i.toNat + x.val ≤ 0xFFF) :
    exec (.ldMemVx x) s = .next ((s.memWriteBytes s.i.toNat (s.regsUpTo x)).finish .next) :=
  withDataRange_of_fits _ (.inr (by omega))

/-- Settles O46: the store leaves V0 to VX at `I` on, and the fetch reads two neighbours of that list. -/
theorem storedBytesAreFetched : Obligations.StoredBytesAreFetched := by
  intro x k s t u hi hk hexec hmem hpc
  obtain rfl := Host.Outcome.next.inj (hexec.symm.trans (exec_ldMemVx_of_fits hi))
  have hfetch : u.fetchWord = wordOfBytes _ _ :=
    fetchWord_of_memWriteBytes (by simpa using hk) (by rw [State.length_regsUpTo]; omega)
      (hmem.trans (State.finish_mem _ _)) hpc
  have hnext : k + 1 = ⟨k.val + 1, by omega⟩ := Fin.ext (Nat.mod_eq_of_lt (show k.val + 1 < 16 by omega))
  rw [hfetch, wordOfBytes_toNat, State.getElem_regsUpTo, State.getElem_regsUpTo, hnext]

/-! ### The placed word -/

theorem readyToFetch_fsm_ne_fault (s : State) : s.readyToFetch.fsm ≠ .fault := by
  show (if s.fsm = .fault then FsmState.ready else s.fsm) ≠ .fault
  split
  · nofun
  · assumption

theorem readyToFetch_pc_lt (s : State) : s.readyToFetch.pc.toNat < 0xFFF := by
  show (if 0xFFF < s.pc.toNat + 1 then (0x200 : Word) else s.pc).toNat < 0xFFF
  split
  · decide
  · omega

@[simp] theorem placeWord_fsm (s : State) (w : Word) : (s.placeWord w).fsm = s.readyToFetch.fsm :=
  State.memWriteBytes_fsm _ _ _

@[simp] theorem placeWord_pc (s : State) (w : Word) : (s.placeWord w).pc = s.readyToFetch.pc :=
  State.memWriteBytes_pc _ _ _

/-- R92: the next fetch reads the two bytes of the placed word, the high one first. -/
theorem fetchWord_placeWord (s : State) (w : Word) :
    (s.placeWord w).fetchWord = wordOfBytes (highByte w) (lowByte w) := by
  have hpc := readyToFetch_pc_lt s
  exact fetchWord_of_memWriteBytes (k := 0) (bs := [highByte w, lowByte w]) (Nat.lt_add_one 1)
    (by show s.readyToFetch.pc.toNat + 2 ≤ 0x1000; omega) rfl (congrArg BitVec.toNat (placeWord_pc s w))

theorem decodeBytes_of_decodeTableWord {nbits w : Nat} {i : Instr} (h : decodeTableWord nbits w = some i) :
    decodeBytes (highByte (tableWord nbits w)) (lowByte (tableWord nbits w)) = .instr i := by
  unfold decodeTableWord at h
  split at h
  next hdecode => rw [hdecode, Option.some.inj h]
  next => cases h

/-- The cycle of a block that fetches and decodes an instruction is that instruction's (R102, R104, R105). -/
theorem step_of_decode {s : State} {i : Instr} (hs : s.fsm ≠ .fault) (hpc : s.pc.toNat < 0xFFF)
    (hdecode : decode s.fetchWord = .instr i) : step s = exec i s.deassertStrobes := by
  obtain ⟨hhalted, -⟩ | ⟨-, hpast, -⟩ | ⟨-, -, op, hunknown, -⟩ | ⟨-, -, j, hj, hstep⟩ := step_cases s
  · exact absurd hhalted hs
  · omega
  · cases hdecode.symm.trans hunknown
  · cases hdecode.symm.trans hj
    exact hstep

/-- Settles O10: the placed word is what the next cycle fetches, in a block made ready to fetch. -/
theorem stepRunsPlacedWord : Obligations.StepRunsPlacedWord := by
  intro s w i hw
  have hready : (s.placeWord (tableWord 16 w)).fsm ≠ .fault := by simpa using readyToFetch_fsm_ne_fault s
  have hpc : (s.placeWord (tableWord 16 w)).pc.toNat < 0xFFF := by simpa using readyToFetch_pc_lt s
  have hdecode : decode (s.placeWord (tableWord 16 w)).fetchWord = .instr i := by
    rw [fetchWord_placeWord]
    exact decodeBytes_of_decodeTableWord hw
  exact step_of_decode hready hpc hdecode

end Sys2Proof
end

section
/-! PROOFS. The claims about the encoding (spec 30_encoding.md): decoding and encoding are inverse to each other (R82, R84),
the decoder is the opcode map (R84, R85, R90), and the unknown words are the listed families (R86). Everything rests on the
fields of the three word layouts of R81. -/

namespace Sys2Proof

/-! ### The fields of a word that was put together (R81, R82) -/

@[simp] theorem fieldFamily_wordNnn (f : BitVec 4) (nnn : BitVec 12) : fieldFamily (wordNnn f nnn) = f :=
  BitVec.extractLsb'_append_eq_left

@[simp] theorem fieldNnn_wordNnn (f : BitVec 4) (nnn : BitVec 12) : fieldNnn (wordNnn f nnn) = nnn :=
  BitVec.extractLsb'_append_eq_right

@[simp] theorem fieldFamily_wordXnn (f : BitVec 4) (x : Fin 16) (nn : Byte) : fieldFamily (wordXnn f x nn) = f :=
  BitVec.extractLsb'_append_eq_left

@[simp] theorem fieldX_wordXnn (f : BitVec 4) (x : Fin 16) (nn : Byte) : fieldX (wordXnn f x nn) = x := by
  unfold fieldX wordXnn
  rw [BitVec.extractLsb'_append_eq_of_add_le (by decide), BitVec.extractLsb'_append_eq_left]

@[simp] theorem fieldNn_wordXnn (f : BitVec 4) (x : Fin 16) (nn : Byte) : fieldNn (wordXnn f x nn) = nn := by
  unfold fieldNn wordXnn
  rw [BitVec.extractLsb'_append_eq_of_add_le (by decide), BitVec.extractLsb'_append_eq_right]

@[simp] theorem fieldFamily_wordXyn (f : BitVec 4) (x y : Fin 16) (n : BitVec 4) :
    fieldFamily (wordXyn f x y n) = f :=
  BitVec.extractLsb'_append_eq_left

@[simp] theorem fieldX_wordXyn (f : BitVec 4) (x y : Fin 16) (n : BitVec 4) : fieldX (wordXyn f x y n) = x := by
  unfold fieldX wordXyn
  rw [BitVec.extractLsb'_append_eq_of_add_le (by decide), BitVec.extractLsb'_append_eq_left]

@[simp] theorem fieldY_wordXyn (f : BitVec 4) (x y : Fin 16) (n : BitVec 4) : fieldY (wordXyn f x y n) = y := by
  unfold fieldY wordXyn
  rw [BitVec.extractLsb'_append_eq_of_add_le (by decide), BitVec.extractLsb'_append_eq_of_add_le (by decide),
    BitVec.extractLsb'_append_eq_left]

@[simp] theorem fieldN_wordXyn (f : BitVec 4) (x y : Fin 16) (n : BitVec 4) : fieldN (wordXyn f x y n) = n := by
  unfold fieldN wordXyn
  rw [BitVec.extractLsb'_append_eq_of_add_le (by decide), BitVec.extractLsb'_append_eq_of_add_le (by decide),
    BitVec.extractLsb'_append_eq_right]

/-! ### A word put together from its own fields -/

theorem wordNnn_of_family {op : Word} {f : BitVec 4} (hf : (fieldFamily op).toNat = f.toNat) :
    wordNnn f (fieldNnn op) = op := by
  obtain rfl := BitVec.eq_of_toNat_eq hf
  exact BitVec.extractLsb'_append_extractLsb'

theorem wordXnn_of_family {op : Word} {f : BitVec 4} (hf : (fieldFamily op).toNat = f.toNat) :
    wordXnn f (fieldX op) (fieldNn op) = op := by
  have hlow : op.extractLsb' 8 4 ++ op.extractLsb' 0 8 = op.extractLsb' 0 12 :=
    BitVec.extractLsb'_append_extractLsb'_eq_extractLsb' rfl
  exact (congrArg (wordNnn f) hlow).trans (wordNnn_of_family hf)

theorem wordXyn_of_family {op : Word} {f : BitVec 4} (hf : (fieldFamily op).toNat = f.toNat) :
    wordXyn f (fieldX op) (fieldY op) (fieldN op) = op := by
  have hlow : op.extractLsb' 4 4 ++ op.extractLsb' 0 4 = op.extractLsb' 0 8 :=
    BitVec.extractLsb'_append_extractLsb'_eq_extractLsb' rfl
  exact (congrArg (wordXnn f (fieldX op)) hlow).trans (wordXnn_of_family hf)

theorem wordXnn_of_byte {op : Word} {f : BitVec 4} {nn : Byte} (hf : (fieldFamily op).toNat = f.toNat)
    (hnn : (fieldNn op).toNat = nn.toNat) : wordXnn f (fieldX op) nn = op :=
  BitVec.eq_of_toNat_eq hnn ▸ wordXnn_of_family hf

theorem wordXyn_of_nibble {op : Word} {f n : BitVec 4} (hf : (fieldFamily op).toNat = f.toNat)
    (hn : (fieldN op).toNat = n.toNat) : wordXyn f (fieldX op) (fieldY op) n = op :=
  BitVec.eq_of_toNat_eq hn ▸ wordXyn_of_family hf

/-! ### Decoding an encoded instruction -/

/-- Settles O17: the instructions by the layout of R81 that their words have and by the function that decodes them; each
field of the word is the operand put there, and the decoder fills in the fields. -/
theorem decodeOfEncode : Obligations.DecodeOfEncode := by
  intro i
  cases i with
  | cls | ret => rfl
  | jpNnn | callNnn | ldINnn | jpV0Nnn => simp [encode, decode]
  | seVxNn | sneVxNn | ldVxNn | addVxNn | rndVxNn => simp [encode, decode]
  | seVxVy | sneVxVy | drwVxVyN => simp [encode, decode]
  | ldVxVy | orVxVy | andVxVy | xorVxVy | addVxVy | subVxVy | shrVx | subnVxVy | shlVx =>
    simp [encode, decode, decodeAlu]
  | skpVx | sknpVx => simp [encode, decode, decodeKey]
  | ldVxDt | ldVxK | ldDtVx | ldStVx | addIVx | ldFVx | ldBVx | ldMemVx | ldVxMem =>
    simp [encode, decode, decodeMisc]

/-! ### Encoding a decoded word -/

theorem encode_of_decodeFixed {op : Word} {i : Instr} (h : decodeFixed op = .instr i) : encode i = op := by
  unfold decodeFixed at h
  split at h
  next hop => cases h; exact BitVec.eq_of_toNat_eq hop.symm
  next hop => cases h; exact BitVec.eq_of_toNat_eq hop.symm
  next => cases h

theorem encode_of_decodeAlu {op : Word} {i : Instr} (hf : (fieldFamily op).toNat = 0x8)
    (h : decodeAlu op = .instr i) : encode i = op := by
  unfold decodeAlu at h
  split at h <;> cases h <;> exact wordXyn_of_nibble hf ‹_›

theorem encode_of_decodeKey {op : Word} {i : Instr} (hf : (fieldFamily op).toNat = 0xE)
    (h : decodeKey op = .instr i) : encode i = op := by
  unfold decodeKey at h
  split at h <;> cases h <;> exact wordXnn_of_byte hf ‹_›

theorem encode_of_decodeMisc {op : Word} {i : Instr} (hf : (fieldFamily op).toNat = 0xF)
    (h : decodeMisc op = .instr i) : encode i = op := by
  unfold decodeMisc at h
  split at h <;> cases h <;> exact wordXnn_of_byte hf ‹_›

/-- The families 5 and 9 have one instruction each, and ask for the nibble 0 (R84). -/
theorem encode_of_nibble_zero {op : Word} {i j : Instr}
    (h : (if fieldN op = 0 then .instr j else .unknown op : Decoded) = .instr i)
    (hj : fieldN op = 0 → encode j = op) : encode i = op := by
  split at h
  next hn => cases h; exact hj hn
  next => cases h

/-- Settles O18: in each family the decoder fills in the fields of the layout that the family's words have. -/
theorem encodeOfDecode : Obligations.EncodeOfDecode := by
  intro op i h
  have hlt := (fieldFamily op).isLt
  unfold decode at h
  interval_cases hf : (fieldFamily op).toNat
  · exact encode_of_decodeFixed h
  · cases h; exact wordNnn_of_family hf
  · cases h; exact wordNnn_of_family hf
  · cases h; exact wordXnn_of_family hf
  · cases h; exact wordXnn_of_family hf
  · exact encode_of_nibble_zero h fun hn => wordXyn_of_nibble hf (congrArg BitVec.toNat hn)
  · cases h; exact wordXnn_of_family hf
  · cases h; exact wordXnn_of_family hf
  · exact encode_of_decodeAlu hf h
  · exact encode_of_nibble_zero h fun hn => wordXyn_of_nibble hf (congrArg BitVec.toNat hn)
  · cases h; exact wordNnn_of_family hf
  · cases h; exact wordNnn_of_family hf
  · cases h; exact wordXnn_of_family hf
  · cases h; exact wordXyn_of_family hf
  · exact encode_of_decodeKey hf h
  · exact encode_of_decodeMisc hf h

/-! ### The unknown words (R85, R86) -/

theorem fieldFamily_toNat (op : Word) : (fieldFamily op).toNat = op.toNat / 4096 := by
  have := op.isLt
  simp only [fieldFamily, BitVec.extractLsb'_toNat, Nat.shiftRight_eq_div_pow]
  omega

theorem fieldN_toNat (op : Word) : (fieldN op).toNat = op.toNat % 16 := by
  simp [fieldN]

theorem fieldNn_toNat (op : Word) : (fieldNn op).toNat = op.toNat % 256 := by
  simp [fieldNn]

theorem decodeFixed_eq_unknown_iff {op : Word} :
    decodeFixed op = .unknown op ↔ op.toNat ≠ 0x00E0 ∧ op.toNat ≠ 0x00EE := by
  unfold decodeFixed
  split <;> simp_all

theorem decodeAlu_eq_unknown_iff {op : Word} :
    decodeAlu op = .unknown op ↔ (fieldN op).toNat ∈ [0x8, 0x9, 0xA, 0xB, 0xC, 0xD, 0xF] := by
  have hlt := (fieldN op).isLt
  unfold decodeAlu
  interval_cases (fieldN op).toNat <;> simp

theorem decodeKey_eq_unknown_iff {op : Word} :
    decodeKey op = .unknown op ↔ (fieldNn op).toNat ∉ [0x9E, 0xA1] := by
  unfold decodeKey
  split <;> simp_all

theorem decodeMisc_eq_unknown_iff {op : Word} :
    decodeMisc op = .unknown op ↔
      (fieldNn op).toNat ∉ [0x07, 0x0A, 0x15, 0x18, 0x1E, 0x29, 0x33, 0x55, 0x65] := by
  unfold decodeMisc
  split <;> simp_all

/-- R85: nothing but an instruction or the word itself comes out of the decoder. -/
theorem eq_of_decode_eq_unknown {op w : Word} (h : decode op = .unknown w) : w = op := by
  unfold decode decodeFixed decodeAlu decodeKey decodeMisc at h
  repeat' split at h
  all_goals cases h
  all_goals rfl

/-- Settles O20: in each family one row of R86 is left, which is what the family's own decoder says of the word. -/
theorem unknownWordsAreExactlyListed : Obligations.UnknownWordsAreExactlyListed := by
  intro op family low nn
  rw [show family = (fieldFamily op).toNat from (fieldFamily_toNat op).symm,
    show low = (fieldN op).toNat from (fieldN_toNat op).symm,
    show nn = (fieldNn op).toNat from (fieldNn_toNat op).symm]
  have hlt := (fieldFamily op).isLt
  unfold decode
  interval_cases (fieldFamily op).toNat
  all_goals simp [decodeFixed_eq_unknown_iff, decodeAlu_eq_unknown_iff, decodeKey_eq_unknown_iff,
    decodeMisc_eq_unknown_iff, BitVec.toNat_eq]

/-! ### The rows of the opcode map (R84, R85, R90) -/

theorem OpRow.and_of_selects {r : OpRow} {op : Word} (h : r.selects op = true) : op &&& r.mask = r.bits := by
  simpa [OpRow.selects] using h

/-- Two rows that match one word agree on the bits that both fix. -/
theorem OpRow.bits_agree_of_selects {r r' : OpRow} {op : Word} (h : r.selects op = true)
    (h' : r'.selects op = true) : r.bits &&& r'.mask = r'.bits &&& r.mask := by
  rw [← r.and_of_selects h, ← r'.and_of_selects h', BitVec.and_assoc, BitVec.and_assoc, BitVec.and_comm r.mask]

/-- R84: "The rows do not overlap". -/
theorem opcodeTable_pairwise_disjoint :
    opcodeTable.Pairwise fun r r' => ∀ op, ¬ (r.selects op = true ∧ r'.selects op = true) := by
  have hdisagree : opcodeTable.Pairwise fun r r' => r.bits &&& r'.mask ≠ r'.bits &&& r.mask := by decide
  exact hdisagree.imp fun hne _ ⟨h, h'⟩ => hne (OpRow.bits_agree_of_selects h h')

/-- A field of the word that the row's mask fixes is the row's. -/
theorem OpRow.extractLsb'_of_selects {r : OpRow} {op : Word} (h : r.selects op = true) {start len : Nat}
    (hmask : r.mask.extractLsb' start len = BitVec.allOnes len) :
    op.extractLsb' start len = r.bits.extractLsb' start len := by
  rw [← r.and_of_selects h, BitVec.extractLsb'_and, hmask, BitVec.and_allOnes]

/-- The two words agree in what the decoder reads to choose the instruction: the family, then the whole word in family 0,
the nibble N in 5, 8 and 9, and the byte NN in E and F. -/
structure ChoiceAgrees (a b : Word) : Prop where
  family : fieldFamily a = fieldFamily b
  whole : (fieldFamily b).toNat = 0x0 → a = b
  nibble : (fieldFamily b).toNat ∈ [0x5, 0x8, 0x9] → fieldN a = fieldN b
  byte : (fieldFamily b).toNat ∈ [0xE, 0xF] → fieldNn a = fieldNn b

/-- The mask of every row fixes what the decoder reads in the row's family. -/
theorem opcodeTable_masks : ∀ r ∈ opcodeTable, fieldFamily r.mask = 0xF ∧
    ((fieldFamily r.bits).toNat = 0x0 → r.mask = 0xFFFF) ∧
    ((fieldFamily r.bits).toNat ∈ [0x5, 0x8, 0x9] → fieldN r.mask = 0xF) ∧
    ((fieldFamily r.bits).toNat ∈ [0xE, 0xF] → fieldNn r.mask = 0xFF) := by
  decide

theorem OpRow.choiceAgrees_of_selects {r : OpRow} {op : Word} (hr : r ∈ opcodeTable) (h : r.selects op = true) :
    ChoiceAgrees op r.bits := by
  obtain ⟨hfamily, hwhole, hnibble, hbyte⟩ := opcodeTable_masks r hr
  refine ⟨r.extractLsb'_of_selects h hfamily, fun h0 => ?_, fun hn => r.extractLsb'_of_selects h (hnibble hn),
    fun hnn => r.extractLsb'_of_selects h (hbyte hnn)⟩
  rw [← r.and_of_selects h, hwhole h0]
  exact BitVec.and_allOnes.symm

/-- The mnemonic of what was decoded, if it is an instruction. -/
def Decoded.mnemonic? : Decoded → Option String
  | .instr i => some i.mnemonic
  | .unknown _ => none

theorem Decoded.mnemonic?_eq_some {d : Decoded} {m : String} (h : d.mnemonic? = some m) :
    ∃ i, d = .instr i ∧ i.mnemonic = m := by
  cases d with
  | instr i => exact ⟨i, rfl, Option.some.inj h⟩
  | unknown op => cases h

theorem mnemonic?_nibble_zero_congr {a b : Word} {i j : Instr} (h : fieldN a = fieldN b)
    (hij : i.mnemonic = j.mnemonic) :
    (if fieldN a = 0 then .instr i else .unknown a : Decoded).mnemonic? =
      (if fieldN b = 0 then .instr j else .unknown b : Decoded).mnemonic? := by
  rw [h]
  split
  next => exact congrArg some hij
  next => rfl

theorem decodeAlu_mnemonic?_congr {a b : Word} (h : fieldN a = fieldN b) :
    (decodeAlu a).mnemonic? = (decodeAlu b).mnemonic? := by
  unfold decodeAlu
  rw [h]
  split <;> rfl

theorem decodeKey_mnemonic?_congr {a b : Word} (h : fieldNn a = fieldNn b) :
    (decodeKey a).mnemonic? = (decodeKey b).mnemonic? := by
  unfold decodeKey
  rw [h]
  split <;> rfl

theorem decodeMisc_mnemonic?_congr {a b : Word} (h : fieldNn a = fieldNn b) :
    (decodeMisc a).mnemonic? = (decodeMisc b).mnemonic? := by
  unfold decodeMisc
  rw [h]
  split <;> rfl

/-- Which instruction is decoded depends only on what the decoder reads to choose it. -/
theorem ChoiceAgrees.mnemonic?_eq {a b : Word} (h : ChoiceAgrees a b) :
    (decode a).mnemonic? = (decode b).mnemonic? := by
  obtain ⟨hfamily, hwhole, hnibble, hbyte⟩ := h
  have hlt := (fieldFamily b).isLt
  unfold decode
  rw [hfamily]
  interval_cases (fieldFamily b).toNat
  · rw [hwhole rfl]
  · rfl
  · rfl
  · rfl
  · rfl
  · exact mnemonic?_nibble_zero_congr (hnibble (by decide)) rfl
  · rfl
  · rfl
  · exact decodeAlu_mnemonic?_congr (hnibble (by decide))
  · exact mnemonic?_nibble_zero_congr (hnibble (by decide)) rfl
  · rfl
  · rfl
  · rfl
  · rfl
  · exact decodeKey_mnemonic?_congr (hbyte (by decide))
  · exact decodeMisc_mnemonic?_congr (hbyte (by decide))

/-- The row's own bits decode to an instruction of the row. -/
theorem opcodeTable_bits_decode : ∀ r ∈ opcodeTable, (decode r.bits).mnemonic? = some r.mnemonic := by decide

theorem OpRow.decode_of_selects {r : OpRow} {op : Word} (hr : r ∈ opcodeTable) (h : r.selects op = true) :
    ∃ i, decode op = .instr i ∧ i.mnemonic = r.mnemonic :=
  Decoded.mnemonic?_eq_some ((r.choiceAgrees_of_selects hr h).mnemonic?_eq.trans (opcodeTable_bits_decode r hr))

theorem Laws.TableRow.holds : ∀ i : Instr, Laws.TableRow.Statement i
  | .cls => cls
  | .ret => ret
  | .jpNnn nnn => jpNnn nnn
  | .callNnn nnn => callNnn nnn
  | .seVxNn x nn => seVxNn x nn
  | .sneVxNn x nn => sneVxNn x nn
  | .seVxVy x y => seVxVy x y
  | .ldVxNn x nn => ldVxNn x nn
  | .addVxNn x nn => addVxNn x nn
  | .ldVxVy x y => ldVxVy x y
  | .orVxVy x y => orVxVy x y
  | .andVxVy x y => andVxVy x y
  | .xorVxVy x y => xorVxVy x y
  | .addVxVy x y => addVxVy x y
  | .subVxVy x y => subVxVy x y
  | .shrVx x y => shrVx x y
  | .subnVxVy x y => subnVxVy x y
  | .shlVx x y => shlVx x y
  | .sneVxVy x y => sneVxVy x y
  | .ldINnn nnn => ldINnn nnn
  | .jpV0Nnn nnn => jpV0Nnn nnn
  | .rndVxNn x nn => rndVxNn x nn
  | .drwVxVyN x y n => drwVxVyN x y n
  | .skpVx x => skpVx x
  | .sknpVx x => sknpVx x
  | .ldVxDt x => ldVxDt x
  | .ldVxK x => ldVxK x
  | .ldDtVx x => ldDtVx x
  | .ldStVx x => ldStVx x
  | .addIVx x => addIVx x
  | .ldFVx x => ldFVx x
  | .ldBVx x => ldBVx x
  | .ldMemVx x => ldMemVx x
  | .ldVxMem x => ldVxMem x

/-- R90: the word of a decoded instruction is matched by the instruction's row. -/
theorem exists_row_of_decode {op : Word} {i : Instr} (h : decode op = .instr i) :
    ∃ r ∈ opcodeTable, r.selects op = true := by
  obtain ⟨r, hr, -, hselects⟩ := Laws.TableRow.holds i
  exact ⟨r, hr, encodeOfDecode op i h ▸ hselects⟩

/-- Settles O19: a row that matches fixes what the decoder reads, and the word of a decoded instruction has a row. -/
theorem decoderFollowsOpcodeMap : Obligations.DecoderFollowsOpcodeMap := by
  refine ⟨fun op => ?_, opcodeTable_pairwise_disjoint⟩
  split
  next r hfind =>
    have hselects := List.find?_some (p := (OpRow.selects · op)) hfind
    exact r.decode_of_selects (List.mem_of_find?_eq_some hfind) hselects
  next hnone =>
    cases hdecode : decode op with
    | instr i =>
      obtain ⟨r, hr, hselects⟩ := exists_row_of_decode hdecode
      exact absurd hselects (List.find?_eq_none.1 hnone r hr)
    | unknown w => rw [eq_of_decode_eq_unknown hdecode]

/-- Settles O21: the decoder evaluated on the twenty words. -/
theorem sampleWordsDecode : Obligations.SampleWordsDecode := by
  unfold Obligations.SampleWordsDecode
  decide

end Sys2Proof
end

section
/-! PROOFS. The cycle's claims (spec 40_cycle.md, 45_timers_keys.md, 60_exceptions.md): what a cycle does in each of the cases
of R107, that nothing but reset leaves FAULT (R248), that an unknown word ends all progress (R279), and the timers with the
beep (R225 to R227, R259). What is said of timers rests on one inversion of `exec`, `exec_ends_timed`. -/

namespace Sys2Proof

open Machine

/-! ### The cycle, case by case (R107) -/

/-- A halted block ignores the cycle request (R101). -/
theorem step_of_halted {s : State} (hs : s.fsm = .fault) : step s = .next s.deassertStrobes := if_pos hs

/-- A fetch past the last word faults (R103). -/
theorem step_of_fetch_past {s : State} (hs : s.fsm ≠ .fault) (hpc : 0xFFF ≤ s.pc.toNat) :
    step s = .next (s.deassertStrobes.raiseFault .fetchBounds (max s.pc.toNat 0x1000)) :=
  (if_neg hs).trans (if_pos (Nat.lt_succ_of_le hpc))

/-- The cycle of a block that fetches an unknown word is the unknown-opcode cycle (R109). -/
theorem step_of_unknown {s : State} {op : Word} (hs : s.fsm ≠ .fault) (hpc : s.pc.toNat < 0xFFF)
    (hdecode : decode s.fetchWord = .unknown op) :
    step s = .next (unknownOpcodeWith Params.unkRunsTimers op s.deassertStrobes) := by
  obtain ⟨hhalted, -⟩ | ⟨-, hpast, -⟩ | ⟨-, -, op', hop', hstep⟩ | ⟨-, -, i, hi, -⟩ := step_cases s
  · exact absurd hhalted hs
  · omega
  · cases hdecode.symm.trans hop'
    exact hstep
  · cases hdecode.symm.trans hi

/-- Outside LOAD the load port ignores every write (R257). -/
theorem loadWrite_of_ne_load {s : State} (hs : s.fsm ≠ .load) (a : Nat) (b : Byte) : loadWrite a b s = s :=
  if_neg fun h => hs h.1

/-- Settles O5: of the four host actions only reset writes FSM_STATE of a halted block. -/
theorem onlyResetLeavesFault : Obligations.OnlyResetLeavesFault := by
  intro font s hs
  have hload : s.fsm ≠ .load := by simp [hs]
  exact ⟨step_of_halted hs, fun a b => congrArg _ (loadWrite_of_ne_load hload a b), fun _ _ => ⟨_, rfl, hs, rfl⟩,
    fun seed => ⟨_, rfl, State.resetWith_fsm font seed, rfl⟩⟩

/-- Settles O9: the word of the statement is the fetched word of the model. -/
theorem stepRunsDecodedInstruction : Obligations.StepRunsDecodedInstruction :=
  fun _ _ hs hpc hdecode => step_of_decode hs hpc hdecode

/-- Settles O11: the fault entry of the model is the `Faulted` of the statement. -/
theorem fetchPastMemoryFaults : Obligations.FetchPastMemoryFaults :=
  fun _ hs hpc => step_of_fetch_past hs hpc

/-! ### The unknown word (R109) -/

/-- The timer step of a cycle that has not beeped yet (R108). -/
theorem timerStep_of_quiet {s : State} (h : s.beep = false) :
    s.timerStep = { s with dt := countDown s.dt, st := countDown s.st, beep := decide (0 < s.st.toNat) } := by
  simp [State.timerStep, h]

/-- Settles O12: the unknown-opcode cycle's definition, with the timer step from a deasserted beep strobe. -/
theorem unknownWordIsRecorded : Obligations.UnknownWordIsRecorded := by
  intro s op start told
  refine ⟨fun hs hpc hdecode => ⟨(eq_of_decode_eq_unknown hdecode).symm, step_of_unknown hs hpc hdecode⟩, rfl, ?_,
    countDown_toNat⟩
  have hquiet : (start.markUnknown op).beep = false := rfl
  exact congrArg (State.setFsm · .ready) (timerStep_of_quiet hquiet)

theorem unknownOpcodeWith_false (op : Word) (s : State) :
    unknownOpcodeWith false op s = (s.markUnknown op).setFsm .ready := rfl

/-- Without the timer step the unknown-opcode cycle does nothing more the second time. -/
theorem unknownOpcodeWith_false_idem (op : Word) (s : State) :
    unknownOpcodeWith false op (unknownOpcodeWith false op s.deassertStrobes).deassertStrobes =
      unknownOpcodeWith false op s.deassertStrobes := by
  rw [unknownOpcodeWith_false, unknownOpcodeWith_false]
  simp only [State.markUnknown, State.setFsm, State.deassertStrobes]

/-- Without the timer step the unknown-opcode cycle leaves `pc` and memory, so the next cycle meets the same word (R109). -/
theorem step_unknownOpcodeWith_false {s : State} {op : Word} (hpc : s.pc.toNat < 0xFFF)
    (hdecode : decode s.fetchWord = .unknown op) :
    step (unknownOpcodeWith false op s.deassertStrobes) = .next (unknownOpcodeWith false op s.deassertStrobes) := by
  have hready : (unknownOpcodeWith false op s.deassertStrobes).fsm ≠ .fault := nofun
  have hsamePc : (unknownOpcodeWith false op s.deassertStrobes).pc = s.pc := rfl
  have hsameWord : (unknownOpcodeWith false op s.deassertStrobes).fetchWord = s.fetchWord := rfl
  rw [step_of_unknown hready (hsamePc ▸ hpc) (hsameWord ▸ hdecode)]
  exact congrArg _ (unknownOpcodeWith_false_idem op s)

/-- A state that the cycle does not change is where any number of cycles leads. -/
theorem run_of_fixed {t : State} (h : step t = .next t) (k : Nat) : core.run k t = .next t := by
  induction k with
  | zero => rfl
  | succ k ih => exact (run_of_next k h).trans ih

/-- Settles O13: the state after the unknown word is a fixed point of the cycle. -/
theorem unknownWordLivelocks : Obligations.UnknownWordLivelocks := by
  intro s t op k hs hpc hdecode hstep
  obtain rfl := Host.Outcome.next.inj (hstep.symm.trans (step_of_unknown hs hpc hdecode))
  exact run_of_fixed (step_unknownOpcodeWith_false hpc hdecode) k

/-! ### The timers in one cycle, said once -/

/-- The value of DT that the timer step of the cycle executing `i` in `s` finds: FX15 has just written it (R225), every
other instruction leaves it (R31). -/
def delayAtTimerStep (i : Instr) (s : State) : Nat :=
  match i with
  | .ldDtVx x => (s.reg x).toNat
  | _ => s.dt.toNat

theorem delayAtTimerStep_of_ne {i : Instr} (h : ∀ x, i ≠ .ldDtVx x) (s : State) :
    delayAtTimerStep i s = s.dt.toNat := by
  unfold delayAtTimerStep
  split
  next x => exact absurd rfl (h x)
  next => rfl

theorem soundAtTimerStep_of_ne {i : Instr} (h : ∀ x, i ≠ .ldStVx x) (s : State) :
    soundAtTimerStep i s = s.st.toNat := by
  unfold soundAtTimerStep
  split
  next x => exact absurd rfl (h x)
  next => rfl

/-- Only FX0A waits (R105, R224). -/
theorem not_waits_of_ne {i : Instr} (h : ∀ x, i ≠ .ldVxK x) (s : State) : ¬ Waits i s :=
  fun ⟨⟨x, hx⟩, _⟩ => h x hx

/-- What the timer step of the cycle executing `i` in `s` finds in `u`, and that it runs unless the outcome `a` is a wait. -/
structure TimersReached (i : Instr) (s u : State) (a : Advance) : Prop where
  delay : u.dt.toNat = delayAtTimerStep i s
  sound : u.st.toNat = soundAtTimerStep i s
  beep : u.beep = s.beep
  waits : a = .wait ↔ Waits i s

/-- The answer `r` of the instruction `i` executed in `s`: the end of the cycle with the timers as `TimersReached` says, or
the fault entry. -/
def EndsTimed (i : Instr) (s : State) (r : Result) : Prop :=
  (∃ u a, r = .next (u.finish a) ∧ TimersReached i s u a) ∨ ∃ code info, r = .next (s.raiseFault code info)

/-- An instruction other than FX0A that completes. -/
theorem EndsTimed.endCycle {i : Instr} {s u : State} {a : Advance} (hdelay : u.dt.toNat = delayAtTimerStep i s)
    (hsound : u.st.toNat = soundAtTimerStep i s) (hbeep : u.beep = s.beep) (ha : a ≠ .wait) (hi : ∀ x, i ≠ .ldVxK x) :
    EndsTimed i s (Machine.endCycle a u) :=
  .inl ⟨u, a, rfl, hdelay, hsound, hbeep, iff_of_false ha (not_waits_of_ne hi s)⟩

theorem endsTimed_faultCycle (i : Instr) (s : State) (code : FaultCode) (info : Nat) :
    EndsTimed i s (faultCycle code info s) :=
  .inr ⟨code, info, rfl⟩

theorem EndsTimed.withDataRange {i : Instr} {s : State} {body : Result} (n : Nat) (h : EndsTimed i s body) :
    EndsTimed i s (Machine.withDataRange n s body) := by
  obtain ⟨-, hfits⟩ | ⟨-, -, hfaults⟩ := withDataRange_cases n s body
  · rwa [hfits]
  · rw [hfaults]
    exact endsTimed_faultCycle i s _ _

theorem endsTimed_withKeyIndex {i : Instr} {s : State} {body : Fin 16 → Result} (x : Fin 16)
    (h : ∀ k, EndsTimed i s (body k)) : EndsTimed i s (withKeyIndex x s body) := by
  unfold withKeyIndex
  split
  · exact h _
  · exact endsTimed_faultCycle i s _ _

theorem execRet_endsTimed (s : State) : EndsTimed .ret s (execRet s) := by
  unfold execRet
  split
  · exact .endCycle rfl rfl rfl nofun nofun
  · exact .endCycle rfl rfl rfl nofun nofun

theorem execCallNnn_endsTimed (nnn : BitVec 12) (s : State) : EndsTimed (.callNnn nnn) s (execCallNnn nnn s) := by
  unfold execCallNnn
  split
  · exact .endCycle rfl rfl rfl nofun nofun
  · exact endsTimed_faultCycle _ s _ _

theorem execLdFVx_endsTimed (x : Fin 16) (s : State) : EndsTimed (.ldFVx x) s (execLdFVx x s) := by
  unfold execLdFVx
  split
  · exact .endCycle rfl rfl rfl nofun nofun
  · exact .endCycle rfl rfl rfl nofun nofun

/-- R224: FX0A has the outcome `wait` exactly when no key is pressed. -/
theorem execLdVxK_endsTimed (x : Fin 16) (s : State) : EndsTimed (.ldVxK x) s (execLdVxK x s) := by
  unfold execLdVxK
  split
  next k hk =>
    obtain ⟨hpressed, -⟩ := State.firstPressed_some.1 hk
    have hruns : ¬ Waits (.ldVxK x) s := fun ⟨_, hnone⟩ => by simp [hnone k] at hpressed
    exact .inl ⟨_, .next, rfl, rfl, rfl, rfl, iff_of_false nofun hruns⟩
  next hnone =>
    exact .inl ⟨s, .wait, rfl, rfl, rfl, rfl, iff_of_true rfl ⟨⟨x, rfl⟩, State.firstPressed_none.1 hnone⟩⟩

/-- One inversion for all instructions: what the timer step of the cycle finds, and when it does not run. -/
theorem exec_ends_timed (i : Instr) (s : State) : EndsTimed i s (exec i s) := by
  cases i with
  | ret => exact execRet_endsTimed s
  | callNnn nnn => exact execCallNnn_endsTimed nnn s
  | ldFVx x => exact execLdFVx_endsTimed x s
  | ldVxK x => exact execLdVxK_endsTimed x s
  | skpVx x =>
    exact endsTimed_withKeyIndex x fun k =>
      .endCycle (i := .skpVx x) (a := .skip (s.keyPressed k)) rfl rfl rfl nofun nofun
  | sknpVx x =>
    exact endsTimed_withKeyIndex x fun k =>
      .endCycle (i := .sknpVx x) (a := .skip (!s.keyPressed k)) rfl rfl rfl nofun nofun
  | drwVxVyN x y n =>
    exact .withDataRange _ (.endCycle (congrArg _ (by simp)) (congrArg _ (by simp)) (by simp) nofun nofun)
  | ldBVx x =>
    exact .withDataRange _ (.endCycle (congrArg _ (by simp)) (congrArg _ (by simp)) (by simp) nofun nofun)
  | ldMemVx x =>
    exact .withDataRange _ (.endCycle (congrArg _ (by simp)) (congrArg _ (by simp)) (by simp) nofun nofun)
  | ldVxMem x =>
    exact .withDataRange _ (.endCycle (congrArg _ (by simp)) (congrArg _ (by simp)) (by simp) nofun nofun)
  | _ => exact .endCycle rfl rfl rfl nofun nofun

/-! ### An executed cycle's timers and beep -/

/-- R108: a cycle whose timer step runs beeps when that step finds ST above 0. -/
theorem finish_beep_of_ne_wait {a : Advance} (ha : a ≠ .wait) (u : State) :
    (u.finish a).beep = (u.beep || decide (0 < u.st.toNat)) := by
  rw [State.finish_beep, if_neg ha]
  by_cases h : 0 < u.st.toNat <;> simp [h]

theorem Executes.exec_eq {i : Instr} {s t : State} (h : Executes i s t) : exec i s.deassertStrobes = .next t := by
  obtain ⟨hs, hpc, hdecode, hstep, -⟩ := h
  exact (step_of_decode hs hpc hdecode).symm.trans hstep

/-- An executed instruction ends its cycle from the state the timer step meets, strobes deasserted at the start. -/
theorem Executes.ends {i : Instr} {s t : State} (h : Executes i s t) :
    ∃ u a, t = u.finish a ∧ TimersReached i s.deassertStrobes u a := by
  obtain ⟨u, a, hend, htimers⟩ | ⟨code, info, hfault⟩ := exec_ends_timed i s.deassertStrobes
  · exact ⟨u, a, Host.Outcome.next.inj (h.exec_eq.symm.trans hend), htimers⟩
  · obtain rfl := Host.Outcome.next.inj (h.exec_eq.symm.trans hfault)
    obtain ⟨-, -, -, -, hrunning⟩ := h
    exact absurd rfl hrunning

theorem Executes.dt_toNat {i : Instr} {s t : State} (h : Executes i s t) (hw : ¬ Waits i s) :
    t.dt.toNat = delayAtTimerStep i s - 1 := by
  obtain ⟨u, a, rfl, htimers⟩ := h.ends
  rw [State.finish_dt, if_neg (mt htimers.waits.1 hw), countDown_toNat, htimers.delay]
  rfl

theorem Executes.st_toNat {i : Instr} {s t : State} (h : Executes i s t) (hw : ¬ Waits i s) :
    t.st.toNat = soundAtTimerStep i s - 1 := by
  obtain ⟨u, a, rfl, htimers⟩ := h.ends
  rw [State.finish_st, if_neg (mt htimers.waits.1 hw), countDown_toNat, htimers.sound]
  rfl

theorem Executes.beep_iff {i : Instr} {s t : State} (h : Executes i s t) :
    t.beep = true ↔ ¬ Waits i s ∧ 0 < soundAtTimerStep i s := by
  obtain ⟨u, a, rfl, htimers⟩ := h.ends
  have hquiet : u.beep = false := htimers.beep
  have hsound : u.st.toNat = soundAtTimerStep i s := htimers.sound
  have hwaits : a = .wait ↔ Waits i s := htimers.waits
  by_cases ha : a = .wait
  · simp [ha, hquiet, hwaits.1 ha]
  · rw [finish_beep_of_ne_wait ha, hquiet, hsound]
    simp [mt hwaits.2 ha]

/-- R110: a cycle that executes no instruction, or faults, does not beep. -/
theorem exists_executes_of_beep {s t : State} (h : step s = .next t) (hbeep : t.beep = true) :
    ∃ i, Executes i s t := by
  obtain ⟨-, hhalted⟩ | ⟨-, -, hfetch⟩ | ⟨-, -, op, -, hunknown⟩ | ⟨hs, hpc, i, hdecode, hexec⟩ := step_cases s
  · obtain rfl := Host.Outcome.next.inj (h.symm.trans hhalted)
    cases hbeep
  · obtain rfl := Host.Outcome.next.inj (h.symm.trans hfetch)
    cases hbeep
  · obtain rfl := Host.Outcome.next.inj (h.symm.trans hunknown)
    cases hbeep
  · refine ⟨i, hs, hpc, hdecode, h, ?_⟩
    obtain ⟨u, a, hend, -⟩ | ⟨code, info, hfault⟩ := exec_ends_timed i s.deassertStrobes
    · obtain rfl := Host.Outcome.next.inj (h.symm.trans (hexec.trans hend))
      nofun
    · obtain rfl := Host.Outcome.next.inj (h.symm.trans (hexec.trans hfault))
      cases hbeep

/-- Settles O16: only an executed instruction's cycle can beep, and `Executes.beep_iff` says when it does. -/
theorem beepExactlyWhenSoundTimerCounts : Obligations.BeepExactlyWhenSoundTimerCounts := by
  intro s t h
  constructor
  · intro hbeep
    obtain ⟨i, hi⟩ := exists_executes_of_beep h hbeep
    exact ⟨i, hi, hi.beep_iff.1 hbeep⟩
  · rintro ⟨i, hi, hcounts⟩
    exact hi.beep_iff.2 hcounts

/-! ### Counting down over a run (R227) -/

/-- A value that every tick lowers by 1, floor 0, is lowered by the number of ticks. -/
theorem TickingRun.lowers {ok : Instr → Prop} {timer : State → Nat} {k : Nat} {s t : State}
    (htick : ∀ {i s t}, Executes i s t → ok i → ¬ Waits i s → timer t = timer s - 1) (h : TickingRun ok k s t) :
    timer t = timer s - k := by
  induction h with
  | done s => rfl
  | tick hexec hok hw _ ih =>
    rw [ih, htick hexec hok hw]
    omega

/-- R223: FX07 reads DT as the cycle found it. -/
theorem Executes.reg_of_ldVxDt {x : Fin 16} {s t : State} (h : Executes (.ldVxDt x) s t) : t.reg x = s.dt := by
  obtain rfl : (s.deassertStrobes.setReg x s.dt).finish .next = t := Host.Outcome.next.inj h.exec_eq
  rw [State.finish_reg, State.reg_setReg, if_pos rfl]

/-- Settles O55: the setting cycle counts once, and each cycle of the run once more. -/
theorem timersCountDownByCycles : Obligations.TimersCountDownByCycles := by
  constructor
  · intro x y k s s' t u hset hrun hread
    have hset' : s'.dt.toNat = (s.reg x).toNat - 1 := hset.dt_toNat (not_waits_of_ne (i := .ldDtVx x) nofun s)
    have hrun' : t.dt.toNat = s'.dt.toNat - k := hrun.lowers (timer := fun v => v.dt.toNat) fun hexec hok hw =>
      (hexec.dt_toNat hw).trans (congrArg (· - 1) (delayAtTimerStep_of_ne hok _))
    rw [hread.reg_of_ldVxDt]
    omega
  · intro x k s s' t hset hrun
    have hset' : s'.st.toNat = (s.reg x).toNat - 1 := hset.st_toNat (not_waits_of_ne (i := .ldStVx x) nofun s)
    have hrun' : t.st.toNat = s'.st.toNat - k := hrun.lowers (timer := fun v => v.st.toNat) fun hexec hok hw =>
      (hexec.st_toNat hw).trans (congrArg (· - 1) (soundAtTimerStep_of_ne hok _))
    omega

/-! ### Setting a timer (R225, R226) -/

/-- The common advance of an instruction that may have written a timer (R106, R107). -/
theorem cycleEndsFrom_next {s u : State} (hbeep : u.beep = s.beep) (hpc : u.pc = s.pc) :
    CycleEndsFrom u.dt.toNat u.st.toNat s (u.finish .next) (s.pc.toNat + 2) := by
  refine ⟨?_, rfl, ?_, ?_, ?_⟩
  · rw [State.finish_pc, Advance.newPc_next, hpc]
  · exact countDown_toNat u.dt
  · exact countDown_toNat u.st
  · rw [finish_beep_of_ne_wait (a := .next) nofun, hbeep]

/-- Settles O53: the timer step finds VX in DT. -/
theorem setDelayTimerCountsInItsCycle : Obligations.SetDelayTimerCountsInItsCycle :=
  fun x s => ⟨(s.setDt (s.reg x)).finish .next, rfl, keptBut_finish .next (keptBut_setDt _ (keptBut_refl s)),
    cycleEndsFrom_next rfl rfl⟩

/-- Settles O54: the timer step finds VX in ST. -/
theorem setSoundTimerCountsInItsCycle : Obligations.SetSoundTimerCountsInItsCycle :=
  fun x s => ⟨(s.setSt (s.reg x)).finish .next, rfl, keptBut_finish .next (keptBut_setSt _ (keptBut_refl s)),
    cycleEndsFrom_next rfl rfl⟩

end Sys2Proof
end

section
/-! PROOFS. The control-flow claims (spec 41_control_flow.md): what the eight instructions do (R121 to R123, R126 to R130), and
that a CALL and the RET that matches it pair up at any depth (R124), by induction over the balanced run between them. -/

namespace Sys2Proof

open Machine

/-! ### Instructions that only move `pc` -/

/-- An instruction with no effect of its own keeps everything, and its cycle ends where its outcome leads (R105, R106). -/
theorem exec_only_advances {i : Instr} {s : State} {a : Advance} {n : Nat} (hexec : exec i s = endCycle a s)
    (ha : a ≠ .wait) (hpc : (a.newPc s.pc).toNat = n % 65536) :
    ∃ t, exec i s = .next t ∧ KeptBut (fun _ => False) s t ∧ CycleEnds s t n :=
  ⟨s.finish a, hexec, keptBut_finish a (keptBut_refl s), cycleEnds_finish a n ha rfl rfl rfl hpc⟩

theorem exec_only_jumps {i : Instr} {s : State} {target : Nat} (hexec : exec i s = endCycle (.jump target) s) :
    ∃ t, exec i s = .next t ∧ KeptBut (fun _ => False) s t ∧ CycleEnds s t target :=
  exec_only_advances hexec nofun (Advance.newPc_jump target s.pc)

theorem exec_only_skips {i : Instr} {s : State} {p : Prop} [Decidable p] (hexec : exec i s = endCycle (.skip p) s) :
    ∃ t, exec i s = .next t ∧ KeptBut (fun _ => False) s t ∧ CycleEnds s t (s.pc.toNat + if p then 4 else 2) :=
  exec_only_advances hexec nofun (by simp [Advance.newPc_skip])

/-- A skip on a condition that must not hold, with the lengths the other way round (R127, R129). -/
theorem exec_only_skips_unless {i : Instr} {s : State} {p : Prop} [Decidable p]
    (hexec : exec i s = endCycle (.skip (¬ p)) s) :
    ∃ t, exec i s = .next t ∧ KeptBut (fun _ => False) s t ∧ CycleEnds s t (s.pc.toNat + if p then 2 else 4) :=
  ite_not p 4 2 ▸ exec_only_skips hexec

/-- Settles O23: JP has no effect but its jump. -/
theorem jumpGoesToTarget : Obligations.JumpGoesToTarget := fun _ _ => exec_only_jumps rfl

/-- Settles O25: 4XNN is 3XNN with the condition negated. -/
theorem skipsCompareImmediate : Obligations.SkipsCompareImmediate :=
  fun _ _ _ => ⟨exec_only_skips rfl, exec_only_skips_unless rfl⟩

/-- Settles O26: 9XY0 is 5XY0 with the condition negated, and the words beside them are two of the families of R86. -/
theorem skipsCompareRegisters : Obligations.SkipsCompareRegisters := by
  refine fun x y s => ⟨exec_only_skips rfl, exec_only_skips_unless rfl, fun op hfamily hlow => ?_⟩
  apply (unknownWordsAreExactlyListed op).2
  obtain hfive | hnine := hfamily
  · exact .inr (.inl ⟨hfive, hlow⟩)
  · exact .inr (.inr (.inr (.inl ⟨hnine, hlow⟩)))

/-- Settles O27: the sum of a 12-bit and an 8-bit number is far below 65536, where `pc` would wrap. -/
theorem offsetJumpAddsV0 : Obligations.OffsetJumpAddsV0 := by
  intro nnn s
  obtain ⟨t, hexec, hkept, hends⟩ := exec_only_jumps (i := .jpV0Nnn nnn) (s := s) rfl
  have hbound : nnn.toNat + (s.reg 0).toNat ≤ 0x10FE := by omega
  have hpc : t.pc.toNat = nnn.toNat + (s.reg 0).toNat := hends.1.trans (Nat.mod_eq_of_lt (by omega))
  exact ⟨t, hexec, hpc, hpc ▸ hbound, hkept, hends⟩

/-! ### The return stack -/

theorem exec_ret_of_pos {s : State} (h : 0 < s.sp.val) :
    exec .ret s = .next (s.pop.finish (.jump ((s.topSlot h).toNat + 2))) := dif_pos h

theorem exec_ret_of_empty {s : State} (h : s.sp = 0) : exec .ret s = endCycle .next s :=
  dif_neg (by simp [h])

theorem exec_callNnn_of_lt {nnn : BitVec 12} {s : State} (h : s.sp.val < 16) :
    exec (.callNnn nnn) s = .next ((s.push s.pc h).finish (.jump nnn.toNat)) := dif_pos h

theorem exec_callNnn_of_full {nnn : BitVec 12} {s : State} (h : s.sp = 16) :
    exec (.callNnn nnn) s = faultCycle .stackOverflow 16 s := dif_neg (by simp [h])

/-- The slot a pop reads, by its number (R29). -/
theorem topSlot_eq_slot {s : State} {j : Fin 16} (hj : s.sp.val = j.val + 1) (h : 0 < s.sp.val) :
    s.topSlot h = s.slot j := by
  simp [State.topSlot, State.slot, hj]

/-- A push writes SP and, of the slots, the one SP named (R125). -/
theorem keptBut_push_slot {c : Part → Prop} {s u : State} (w : Word) (h : u.sp.val < 16) (hsp : c .sp)
    (hslot : ∀ j : Fin 16, j.val = u.sp.val → c (.stack j)) (hu : KeptBut c s u) : KeptBut c s (u.push w h) := by
  intro p hp
  cases p with
  | sp => exact absurd hsp hp
  | stack k => exact (State.slot_push u w h k).trans ((if_neg (mt (hslot k) hp)).trans (hu (.stack k) hp))
  | _ => exact hu _ hp

/-- Settles O22: the pop writes SP alone; on an empty stack RET has no effect but the advance. -/
theorem retPopsAndResumesAfterCall : Obligations.RetPopsAndResumesAfterCall := by
  constructor
  · intro s j hj
    have hpos : 0 < s.sp.val := by omega
    refine ⟨_, exec_ret_of_pos hpos, ?_, keptBut_finish _ (keptBut_pop rfl (keptBut_refl s)),
      cycleEnds_finish _ _ nofun rfl rfl rfl ?_⟩
    · simp [hj]
    · rw [Advance.newPc_jump, topSlot_eq_slot hj]
  · intro s hs
    exact exec_only_advances (exec_ret_of_empty hs) nofun (Advance.newPc_next s.pc)

/-- Settles O24: the push writes SP and the slot it named; the fault entry of the model is the `Faulted` of the statement. -/
theorem callPushesItsAddress : Obligations.CallPushesItsAddress := by
  constructor
  · intro nnn s j hj
    have hroom : s.sp.val < 16 := by omega
    have hframe : KeptBut (fun p => p = .sp ∨ p = .stack j) s (s.push s.pc hroom) :=
      keptBut_push_slot s.pc hroom (.inl rfl) (fun k hk => .inr (congrArg _ (Fin.ext (hk.trans hj)))) (keptBut_refl s)
    refine ⟨_, exec_callNnn_of_lt hroom, ?_, ?_, keptBut_finish _ hframe,
      cycleEnds_finish _ _ nofun rfl rfl rfl (Advance.newPc_jump _ _)⟩
    · simp [hj]
    · rw [State.finish_slot, State.slot_push, if_pos hj.symm]
  · intro nnn s hs
    exact exec_callNnn_of_full hs

/-! ### A CALL and its RET (R124) -/

/-- The stack of `t` is the stack of `s`: the same SP, and below it the same addresses. Slots from SP on may differ, since a
nested call leaves its address there (R29). -/
structure StackKept (s t : State) : Prop where
  sp : t.sp = s.sp
  slots : ∀ j : Fin 16, j.val < s.sp.val → t.slot j = s.slot j

theorem StackKept.refl (s : State) : StackKept s s := ⟨rfl, fun _ _ => rfl⟩

theorem StackKept.trans {s t u : State} (hst : StackKept s t) (htu : StackKept t u) : StackKept s u where
  sp := htu.sp.trans hst.sp
  slots j hj := (htu.slots j (hst.sp ▸ hj)).trans (hst.slots j hj)

/-- An instruction other than CALL and RET writes neither SP nor a slot. -/
theorem Executes.stackKept {i : Instr} {s t : State} (h : Executes i s t) (hi : i.callsOrReturns = false) :
    StackKept s t := by
  have hcall : ¬ ∃ nnn, i = .callNnn nnn := by rintro ⟨nnn, rfl⟩; cases hi
  have hret : i ≠ .ret := by rintro rfl; cases hi
  exact ⟨exec_keeps h.exec_eq (p := .sp) nofun (not_or.2 ⟨hcall, hret⟩),
    fun j _ => exec_keeps h.exec_eq (p := .stack j) nofun hcall⟩

/-- A CALL that does not fault found room for its address, and pushed it (R123, R125). -/
theorem Executes.callNnn_pushes {nnn : BitVec 12} {s t : State} (h : Executes (.callNnn nnn) s t) :
    ∃ j : Fin 16, s.sp.val = j.val ∧ t.sp.val = j.val + 1 ∧ t.slot j = s.pc ∧ ∀ k, k ≠ j → t.slot k = s.slot k := by
  obtain ⟨hpush, hfault⟩ := callPushesItsAddress
  by_cases hroom : s.sp.val < 16
  · obtain ⟨_, hexec, hsp, hslot, hkept, -⟩ := hpush nnn s.deassertStrobes ⟨s.sp.val, hroom⟩ rfl
    obtain rfl := Host.Outcome.next.inj (h.exec_eq.symm.trans hexec)
    exact ⟨⟨s.sp.val, hroom⟩, rfl, hsp, hslot, fun k hk => hkept (.stack k) (by simpa using hk)⟩
  · have hfull : s.sp = 16 := Fin.ext (show s.sp.val = 16 by omega)
    obtain rfl := Host.Outcome.next.inj (h.exec_eq.symm.trans (hfault nnn s.deassertStrobes hfull))
    obtain ⟨-, -, -, -, hrunning⟩ := h
    exact absurd rfl hrunning

/-- A RET from a stack that is not empty (R121). -/
theorem Executes.ret_pops {s t : State} {j : Fin 16} (h : Executes .ret s t) (hj : s.sp.val = j.val + 1) :
    t.sp.val = j.val ∧ (∀ k, t.slot k = s.slot k) ∧ t.pc.toNat = ((s.slot j).toNat + 2) % 65536 := by
  obtain ⟨hpop, -⟩ := retPopsAndResumesAfterCall
  obtain ⟨_, hexec, hsp, hkept, hpc, -⟩ := hpop s.deassertStrobes j hj
  obtain rfl := Host.Outcome.next.inj (h.exec_eq.symm.trans hexec)
  exact ⟨hsp, fun k => hkept (.stack k) nofun, hpc⟩

/-- A subroutine that keeps the stack, between its CALL and its RET: the RET pops what the CALL pushed. -/
theorem call_return_pair {s t u v : State} {nnn : BitVec 12} (hcall : Executes (.callNnn nnn) s t)
    (hbody : StackKept t u) (hret : Executes .ret u v) : StackKept s v ∧ v.pc.toNat = s.pc.toNat + 2 := by
  obtain ⟨j, hsp, htop, hpushed, hbelow⟩ := hcall.callNnn_pushes
  obtain ⟨hpopped, hslots, hpc⟩ := hret.ret_pops (j := j) (hbody.sp ▸ htop)
  have hresume : u.slot j = s.pc := (hbody.slots j (by omega)).trans hpushed
  refine ⟨⟨Fin.ext (hpopped.trans hsp.symm), fun k hk => ?_⟩, ?_⟩
  · calc v.slot k = u.slot k := hslots k
      _ = t.slot k := hbody.slots k (by omega)
      _ = s.slot k := hbelow k (Fin.ne_of_val_ne (by omega))
  · obtain ⟨-, hfetched, -⟩ := hcall
    rw [hpc, hresume, Nat.mod_eq_of_lt (by omega)]

/-- Calls and returns that are matched, at any depth, keep the stack. -/
theorem BalancedRun.stackKept {s t : State} (h : BalancedRun s t) : StackKept s t := by
  induction h with
  | done s => exact .refl s
  | plain hexec hi _ ih => exact (hexec.stackKept hi).trans ih
  | nested hcall _ hret _ ihBody ihRest => exact (call_return_pair hcall ihBody hret).1.trans ihRest

/-- Settles O28: the balanced run keeps the stack, so the RET pops what the CALL pushed. -/
theorem callAndReturnPairUp : Obligations.CallAndReturnPairUp := by
  intro s t u v nnn hcall hrun hret
  obtain ⟨hstack, hpc⟩ := call_return_pair hcall hrun.stackKept hret
  exact ⟨hpc, hstack.sp⟩

end Sys2Proof
end

section
/-! PROOFS. The register and arithmetic claims (spec 42_alu.md): the instructions that write VX alone (R151 to R156), those that
write VF and then VX (R157 to R161), and the random byte (R165). -/

namespace Sys2Proof

open Machine

/-! ### Instructions that write VX alone -/

/-- An instruction whose effect is one register write (R112): the value written, the frame, and the common advance. -/
theorem exec_writes_reg {i : Instr} {s : State} {x : Fin 16} {b : Byte}
    (hexec : exec i s = endCycle .next (s.setReg x b)) :
    ∃ t, exec i s = .next t ∧ t.reg x = b ∧ KeptBut (fun p => p = .reg x) s t ∧ CycleEnds s t (s.pc.toNat + 2) :=
  ⟨(s.setReg x b).finish .next, hexec, by simp, keptBut_finish .next (keptBut_setReg x b rfl (keptBut_refl s)),
    cycleEnds_next rfl rfl rfl rfl⟩

/-- Settles O29: 6XNN writes NN. -/
theorem loadImmediateSetsRegister : Obligations.LoadImmediateSetsRegister := fun _ _ _ => exec_writes_reg rfl

/-- Settles O30: the sum of two bytes as bit vectors is their sum mod 256. -/
theorem addImmediateWraps : Obligations.AddImmediateWraps := by
  intro x nn s
  obtain ⟨t, hexec, hreg, hframe⟩ := exec_writes_reg (i := .addVxNn x nn) (s := s) rfl
  exact ⟨t, hexec, hreg ▸ BitVec.toNat_add (s.reg x) nn, hframe⟩

/-- Settles O31: 8XY0 writes VY. -/
theorem moveCopiesRegister : Obligations.MoveCopiesRegister := fun _ _ _ => exec_writes_reg rfl

/-- A bitwise operation, read bit by bit: `f` gives each bit of the value written. -/
theorem exec_writes_reg_bits {i : Instr} {s : State} {x : Fin 16} {b : Byte} {f : Nat → Bool}
    (hexec : exec i s = endCycle .next (s.setReg x b)) (hbits : ∀ k, b.getLsbD k = f k) :
    ∃ t, exec i s = .next t ∧ (∀ k < 8, (t.reg x).getLsbD k = f k) ∧ KeptBut (fun p => p = .reg x) s t ∧
      CycleEnds s t (s.pc.toNat + 2) := by
  obtain ⟨t, hnext, hreg, hframe⟩ := exec_writes_reg hexec
  exact ⟨t, hnext, fun k _ => hreg ▸ hbits k, hframe⟩

/-- Settles O32: each bit of the result is the operation on the operands' bits. -/
theorem logicOperationsWorkBitwise : Obligations.LogicOperationsWorkBitwise :=
  fun _ _ _ => ⟨exec_writes_reg_bits rfl fun _ => BitVec.getLsbD_or, exec_writes_reg_bits rfl fun _ => BitVec.getLsbD_and,
    exec_writes_reg_bits rfl fun _ => BitVec.getLsbD_xor⟩

/-! ### Instructions that write VF and then VX -/

/-- The flag, then the result (R150): the result stands in VX, and the flag in VF unless the result overwrote it. -/
theorem exec_writes_flag_then_reg {i : Instr} {s : State} {x : Fin 16} {flag b : Byte}
    (hexec : exec i s = endCycle .next ((s.setReg flagReg flag).setReg x b)) :
    ∃ t, exec i s = .next t ∧ t.reg x = b ∧ (x ≠ 15 → t.reg 15 = flag) ∧
      KeptBut (fun p => p = .reg x ∨ p = .reg 15) s t ∧ CycleEnds s t (s.pc.toNat + 2) := by
  refine ⟨((s.setReg flagReg flag).setReg x b).finish .next, hexec, by simp, fun hx => ?_, ?_,
    cycleEnds_next rfl rfl rfl rfl⟩
  · rw [State.finish_reg, State.reg_setReg_of_ne _ b hx.symm]
    exact State.reg_setReg_self s flagReg flag
  · exact keptBut_finish .next
      (keptBut_setReg x b (.inl rfl) (keptBut_setReg flagReg flag (.inr rfl) (keptBut_refl s)))

/-- An operand read after the flag write (R10, R150): VF reads as the flag. -/
theorem reg_setFlag_toNat (s : State) (flag : Byte) (x : Fin 16) :
    ((s.setReg flagReg flag).reg x).toNat = if x = 15 then flag.toNat else (s.reg x).toNat := by
  rw [State.reg_setReg, apply_ite BitVec.toNat]
  rfl

theorem carryFlag_toNat (a b : Byte) : (carryFlag a b).toNat = if 255 < a.toNat + b.toNat then 1 else 0 := by
  simp [carryFlag, flagByte_toNat]

theorem greaterFlag_toNat (a b : Byte) : (greaterFlag a b).toNat = if b.toNat < a.toNat then 1 else 0 := by
  simp [greaterFlag, flagByte_toNat]

/-- Subtraction mod 256 (R150), with the borrow added first. -/
theorem byte_sub_toNat (a b : Byte) : (a - b).toNat = (256 + a.toNat - b.toNat) % 256 := by
  rw [BitVec.toNat_sub]
  omega

/-- Settles O33: both the carry and the sum are taken from the old operands. -/
theorem addRegistersSetsCarry : Obligations.AddRegistersSetsCarry := by
  intro x y s
  obtain ⟨t, hexec, hreg, hflag, hframe⟩ := exec_writes_flag_then_reg (i := .addVxVy x y) (s := s) rfl
  exact ⟨t, hexec, hreg ▸ BitVec.toNat_add (s.reg x) (s.reg y), fun hx => hflag hx ▸ carryFlag_toNat _ _, hframe⟩

/-- Settles O34: the operands of the difference are read after the flag write. -/
theorem subtractSetsGreaterFlag : Obligations.SubtractSetsGreaterFlag := by
  intro x y s
  obtain ⟨t, hexec, hreg, hflag, hframe⟩ := exec_writes_flag_then_reg (i := .subVxVy x y) (s := s) rfl
  refine ⟨t, hexec, ⟨?_, fun hx => hflag hx ▸ greaterFlag_toNat _ _⟩, hframe⟩
  rw [hreg, byte_sub_toNat, reg_setFlag_toNat, reg_setFlag_toNat, greaterFlag_toNat]

/-- Settles O36: 8XY5 with the roles of the operands exchanged, the result still in VX. -/
theorem reverseSubtractSetsGreaterFlag : Obligations.ReverseSubtractSetsGreaterFlag := by
  intro x y s
  obtain ⟨t, hexec, hreg, hflag, hframe⟩ := exec_writes_flag_then_reg (i := .subnVxVy x y) (s := s) rfl
  refine ⟨t, hexec, ⟨?_, fun hx => hflag hx ▸ greaterFlag_toNat _ _⟩, hframe⟩
  rw [hreg, byte_sub_toNat, reg_setFlag_toNat, reg_setFlag_toNat, greaterFlag_toNat]

/-- Settles O35: for X = F the flag, at most 1, is what is shifted. -/
theorem shiftRightKeepsLowBitInFlag : Obligations.ShiftRightKeepsLowBitInFlag := by
  intro x y s
  obtain ⟨t, hexec, hreg, hflag, hframe⟩ := exec_writes_flag_then_reg (i := .shrVx x y) (s := s) rfl
  have hvalue : (t.reg x).toNat = (if x = 15 then (s.reg x).toNat % 2 else (s.reg x).toNat) / 2 := by
    rw [hreg, BitVec.toNat_ushiftRight, Nat.shiftRight_eq_div_pow, reg_setFlag_toNat, lowBitFlag_toNat]
  refine ⟨t, hexec, fun hx => ⟨?_, hflag hx ▸ lowBitFlag_toNat _⟩, ?_, hframe⟩
  · rw [hvalue, if_neg hx]
  · rintro rfl
    rw [hvalue, if_pos rfl]
    omega

/-- Settles O37: for X = F the flag, at most 1, is what is doubled. -/
theorem shiftLeftKeepsHighBitInFlag : Obligations.ShiftLeftKeepsHighBitInFlag := by
  intro x y s
  obtain ⟨t, hexec, hreg, hflag, hframe⟩ := exec_writes_flag_then_reg (i := .shlVx x y) (s := s) rfl
  have hvalue : (t.reg x).toNat = (if x = 15 then (s.reg x).toNat / 128 else (s.reg x).toNat) * 2 % 256 := by
    rw [hreg, BitVec.toNat_shiftLeft, Nat.shiftLeft_eq, reg_setFlag_toNat, highBitFlag_toNat]
  refine ⟨t, hexec, fun hx => ⟨?_, hflag hx ▸ highBitFlag_toNat _⟩, ?_, hframe⟩
  · rw [hvalue, if_neg hx]
  · rintro rfl
    rw [hvalue, if_pos rfl]
    omega

/-! ### The random byte -/

/-- Settles O38: one draw, for any generator; a mask of 0 leaves 0 whatever was drawn. -/
theorem randomByteIsMaskedAndDrawn : Obligations.RandomByteIsMaskedAndDrawn := by
  intro x nn s
  have hreg : (((s.setRng (prngNext s.rng).2).setReg x (nn &&& (prngNext s.rng).1)).finish .next).reg x =
      nn &&& (prngNext s.rng).1 := by simp
  refine ⟨_, rfl, hreg, ?_, rfl,
    keptBut_finish .next (keptBut_setReg x _ (.inl rfl) (keptBut_setRng _ (.inr rfl) (keptBut_refl s))),
    cycleEnds_next rfl rfl rfl rfl⟩
  rintro rfl
  exact hreg.trans BitVec.zero_and

end Sys2Proof
end

section
/-! PROOFS. The index and memory claims (spec 43_index_memory.md): the instructions that write `I` (R181 to R183), those that
store bytes from `I` on (R184, R185), the register load (R186), and that a load after a store gives back what was stored
(R187). -/

namespace Sys2Proof

open Machine

/-! ### Instructions that write `I` alone -/

/-- An instruction whose effect is one write of `I` (R112): the value written, the frame, and the common advance. -/
theorem exec_writes_index {i : Instr} {s : State} {w : Word} (hexec : exec i s = endCycle .next (s.setI w)) :
    ∃ t, exec i s = .next t ∧ t.i = w ∧ KeptBut (fun p => p = .index) s t ∧ CycleEnds s t (s.pc.toNat + 2) :=
  ⟨(s.setI w).finish .next, hexec, by simp, keptBut_finish .next (keptBut_setI w rfl (keptBut_refl s)),
    cycleEnds_next rfl rfl rfl rfl⟩

/-- Settles O39: widening NNN to 16 bits keeps its value. -/
theorem loadIndexSetsI : Obligations.LoadIndexSetsI := by
  intro nnn s
  obtain ⟨t, hexec, hi, hframe⟩ := exec_writes_index (i := .ldINnn nnn) (s := s) rfl
  exact ⟨t, hexec, hi ▸ BitVec.toNat_setWidth_of_le (by decide), hframe⟩

/-- Settles O40: the sum of two 16-bit words is their sum mod 65536, and widening VX keeps its value. -/
theorem addToIndexWraps : Obligations.AddToIndexWraps := by
  intro x s
  obtain ⟨t, hexec, hi, hframe⟩ := exec_writes_index (i := .addIVx x) (s := s) rfl
  refine ⟨t, hexec, ?_, hframe⟩
  rw [hi, BitVec.toNat_add, BitVec.toNat_setWidth_of_le (by decide)]

theorem glyphAddress_toNat (digit : Byte) : (glyphAddress digit).toNat = digit.toNat * 5 := by
  rw [glyphAddress, BitVec.toNat_ofNat]
  omega

/-- R183: leaving `I` as it was is writing it with its own value. -/
theorem exec_ldFVx (x : Fin 16) (s : State) : exec (.ldFVx x) s =
    endCycle .next (s.setI (if (s.reg x).toNat < 16 then glyphAddress (s.reg x) else s.i)) :=
  congrArg (endCycle .next) (apply_ite s.setI _ _ _).symm

/-- Settles O41: both branches write `I`, the second with its old value. -/
theorem glyphAddressIsFiveTimesDigit : Obligations.GlyphAddressIsFiveTimesDigit := by
  intro x s
  obtain ⟨t, hexec, hi, hframe⟩ := exec_writes_index (exec_ldFVx x s)
  refine ⟨t, hexec, ?_, hframe⟩
  rw [hi, apply_ite BitVec.toNat, glyphAddress_toNat]

/-! ### Instructions that store bytes from `I` on -/

/-- An instruction whose effect is to store `n` bytes from `I` on (R63, R180), when they fit the memory: the bytes stored,
the frame, and the common advance. -/
theorem exec_stores {i : Instr} {s : State} {n : Nat} {bs : List Byte}
    (hexec : exec i s = withDataRange n s (endCycle .next (s.memWriteBytes s.i.toNat bs))) (hn : bs.length = n)
    (hfits : s.i.toNat + n ≤ 0x1000) :
    ∃ t, exec i s = .next t ∧ (∀ k (hk : k < bs.length), t.memRead (s.i.toNat + k) = bs[k]) ∧
      KeptBut (fun p => ∃ k < n, p = .mem (s.i.toNat + k)) s t ∧ CycleEnds s t (s.pc.toNat + 2) := by
  refine ⟨_, hexec.trans (withDataRange_of_fits _ (.inr hfits)), fun k hk => ?_, ?_,
    cycleEnds_next (by simp) (by simp) (by simp) (by simp)⟩
  · rw [State.finish_memRead, State.memRead_memWriteBytes_inside s _ bs k hk (by omega)]
  · exact keptBut_finish .next (keptBut_memWriteBytes _ bs (fun k hk => ⟨k, hn ▸ hk, rfl⟩) (keptBut_refl s))

/-- Settles O42: the three bytes stored are the digits, each far below 256; past the memory, the model takes the fault entry. -/
theorem decimalDigitsAreStored : Obligations.DecimalDigitsAreStored := by
  refine fun x s => ⟨fun hfits => ?_, fun hpast => withDataRange_of_exceeds _ (by decide) (by omega)⟩
  obtain ⟨t, hexec, hstored, hframe⟩ := exec_stores (i := .ldBVx x) (s := s) (n := 3) rfl rfl (by omega)
  have hdigit {k n : Nat} (hk : k < 3) (hn : n < 256) (hd : (decimalDigits (s.reg x))[k] = BitVec.ofNat 8 n) :
      (t.memRead (s.i.toNat + k)).toNat = n := by
    rw [hstored k hk, hd, BitVec.toNat_ofNat, Nat.mod_eq_of_lt hn]
  have hbyte : (s.reg x).toNat < 256 := (s.reg x).isLt
  exact ⟨t, hexec, hdigit (k := 0) (by decide) (by omega) rfl, hdigit (k := 1) (by decide) (by omega) rfl,
    hdigit (k := 2) (by decide) (by omega) rfl, hframe⟩

/-- Settles O43: byte `k` stored is Vk. -/
theorem registersAreStored : Obligations.RegistersAreStored := by
  refine fun x s => ⟨fun hfits => ?_, fun hpast => withDataRange_of_exceeds _ (Nat.succ_pos _) (by omega)⟩
  obtain ⟨t, hexec, hstored, hkept, hends⟩ :=
    exec_stores (i := .ldMemVx x) (s := s) rfl (s.length_regsUpTo x) (by omega)
  refine ⟨t, hexec, fun k hk => ?_, ?_, hends⟩
  · rw [hstored k (by rw [State.length_regsUpTo]; exact Nat.lt_succ_of_le hk), State.getElem_regsUpTo]
  · exact keptBut_mono (fun _ ⟨k, hk, hp⟩ => ⟨k, Nat.le_of_lt_succ hk, hp⟩) hkept

/-! ### The register load -/

/-- R186: FX65 whose last byte is in range completes, with V0 to VX loaded from `I` on. -/
theorem exec_ldVxMem_of_fits {x : Fin 16} {s : State} (h : s.i.toNat + x.val ≤ 0xFFF) :
    exec (.ldVxMem x) s = .next ((s.loadRegs x).finish .next) :=
  withDataRange_of_fits _ (.inr (by omega))

/-- Settles O44: FX65 writes V0 to VX from the bytes at `I` on. -/
theorem registersAreLoaded : Obligations.RegistersAreLoaded := by
  refine fun x s => ⟨fun hfits => ?_, fun hpast => withDataRange_of_exceeds _ (Nat.succ_pos _) (by omega)⟩
  refine ⟨_, exec_ldVxMem_of_fits hfits, fun k hk => ?_, ?_, ?_⟩
  · rw [State.finish_reg, State.reg_loadRegs, if_pos hk]
  · exact keptBut_finish .next (keptBut_loadRegs x (fun j hj => ⟨j, hj, rfl⟩) (keptBut_refl s))
  · exact cycleEnds_next (s.loadRegs_dt x) (s.loadRegs_st x) (s.loadRegs_beep x) (s.loadRegs_pc x)

/-- Settles O45: the load reads the bytes the store wrote, whatever else happened in between. -/
theorem storeThenLoadRestoresRegisters : Obligations.StoreThenLoadRestoresRegisters := by
  intro x s t u hfits hstore hi hbytes
  obtain ⟨t', hstore', hstored, -⟩ := (registersAreStored x s).1 hfits
  obtain rfl : t = t' := Host.Outcome.next.inj (hstore.symm.trans hstore')
  obtain ⟨v, hload, hloaded, -⟩ := (registersAreLoaded x u).1 (hi ▸ hfits)
  refine ⟨v, hload, fun k hk => ?_⟩
  calc v.reg k = u.memRead (s.i.toNat + k.val) := hi ▸ hloaded k hk
    _ = t.memRead (s.i.toNat + k.val) := hbytes k.val hk
    _ = s.reg k := hstored k hk

end Sys2Proof
end

section
/-! PROOFS. The display claims (spec 44_display.md): 00E0 (R201), DXYN and its collision flag (R202 to R204), and the same
sprite drawn twice (R205). They rest on `Laws/Sprite`: a sprite is a list of distinct targets. -/

namespace Sys2Proof

open Machine

/-- Settles O47: CLS writes the screen alone. -/
theorem clearScreenClearsEveryCell : Obligations.ClearScreenClearsEveryCell := by
  refine fun s => ⟨s.clearScreen.finish .next, rfl, fun c => ?_, ?_, cycleEnds_next rfl rfl rfl rfl⟩
  · rw [State.finish_cell, State.cell_clearScreen]
  · exact keptBut_finish .next (keptBut_clearScreen (fun c => ⟨c, rfl⟩) (keptBut_refl s))

/-! ### The sprite in terms of the cells it covers -/

/-- R204: a covered cell is flipped, and flipped once. -/
theorem cell_drawSprite_of_covers {s : State} {x0 y0 n : Nat} {c : Fin 2048} (h : SpriteCovers s x0 y0 n c) :
    (s.drawSprite x0 y0 n).cell c = !s.cell c := by
  rw [State.drawSprite_eq_drawPixels, State.cell_drawPixels _ _ (nodup_spriteTargets s x0 y0 n),
    decide_eq_true ((mem_spriteTargets s x0 y0 n c).2 h), Bool.xor_true]

theorem cell_drawSprite_of_not_covers {s : State} {x0 y0 n : Nat} {c : Fin 2048} (h : ¬ SpriteCovers s x0 y0 n c) :
    (s.drawSprite x0 y0 n).cell c = s.cell c := by
  rw [State.drawSprite_eq_drawPixels, State.cell_drawPixels _ _ (nodup_spriteTargets s x0 y0 n),
    decide_eq_false (mt (mem_spriteTargets s x0 y0 n c).1 h), Bool.xor_false]

/-- R202: VF is 1 after a collision. -/
theorem flag_drawSprite_of_collision {s : State} {x0 y0 n : Nat}
    (h : ∃ c : Fin 2048, SpriteCovers s x0 y0 n c ∧ s.cell c = true) : (s.drawSprite x0 y0 n).reg 15 = 1 := by
  obtain ⟨c, hcovers, hset⟩ := h
  rw [State.drawSprite_eq_drawPixels, State.flag_drawPixels _ _ (nodup_spriteTargets s x0 y0 n),
    if_pos ⟨c, (mem_spriteTargets s x0 y0 n c).2 hcovers, hset⟩]

/-- R202: without a collision VF is what it was before the first pixel. -/
theorem flag_drawSprite_of_no_collision {s : State} {x0 y0 n : Nat}
    (h : ∀ c : Fin 2048, SpriteCovers s x0 y0 n c → s.cell c = false) :
    (s.drawSprite x0 y0 n).reg 15 = s.reg 15 := by
  rw [State.drawSprite_eq_drawPixels, State.flag_drawPixels _ _ (nodup_spriteTargets s x0 y0 n), if_neg]
  rintro ⟨c, hmem, hset⟩
  exact Bool.false_ne_true ((h c ((mem_spriteTargets s x0 y0 n c).1 hmem)).symm.trans hset)

/-- The covered cells depend on `I` and on the sprite's own bytes alone (R203). -/
theorem spriteCovers_congr {s u : State} {x0 y0 n t : Nat} (hi : u.i = s.i)
    (hbytes : ∀ k < n, u.memRead (s.i.toNat + k) = s.memRead (s.i.toNat + k)) :
    SpriteCovers u x0 y0 n t ↔ SpriteCovers s x0 y0 n t := by
  unfold SpriteCovers
  refine exists_congr fun row => exists_congr fun col => and_congr_right fun hrow => ?_
  rw [hi, hbytes row hrow]

/-! ### DXYN -/

/-- R202: a DXYN whose rows lie in memory, or that has none, completes with the sprite drawn over a cleared VF. -/
theorem exec_drwVxVyN_of_fits {x y : Fin 16} {n : BitVec 4} {s : State}
    (h : n.toNat = 0 ∨ s.i.toNat + n.toNat - 1 ≤ 0xFFF) :
    exec (.drwVxVyN x y n) s = .next
      (((s.setReg flagReg 0).drawSprite (s.reg x).toNat (s.reg y).toNat n.toNat).finish .next) :=
  withDataRange_of_fits _ (by omega)

/-- Settles O48: clearing VF first changes neither the cells nor what the sprite covers, so the laws of `drawSprite` speak of
`s` itself. -/
theorem drawFlipsSpriteCells : Obligations.DrawFlipsSpriteCells := by
  refine fun x y n s => ⟨fun hfits => ?_, fun hrows hpast => withDataRange_of_exceeds _ hrows (by omega)⟩
  refine ⟨_, exec_drwVxVyN_of_fits hfits, fun c => ⟨fun hcovers => ?_, fun hcovers => ?_⟩, fun hcollision => ?_,
    fun hclear => ?_, ?_, cycleEnds_next (by simp) (by simp) (by simp) (by simp)⟩
  · exact (State.finish_cell ..).trans (cell_drawSprite_of_covers (s := s.setReg flagReg 0) hcovers)
  · exact (State.finish_cell ..).trans (cell_drawSprite_of_not_covers (s := s.setReg flagReg 0) hcovers)
  · exact (State.finish_reg ..).trans (flag_drawSprite_of_collision (s := s.setReg flagReg 0) hcollision)
  · rw [State.finish_reg, flag_drawSprite_of_no_collision (s := s.setReg flagReg 0) hclear, State.reg_setReg]
    exact if_pos rfl
  · exact keptBut_finish .next (keptBut_drawSprite _ _ _ (.inl rfl) (fun c => .inr ⟨c, rfl⟩)
      (keptBut_setReg _ _ (.inl rfl) (keptBut_refl s)))

/-- Settles O49: both draws cover the same cells, so a covered cell is flipped twice, and the second draw finds it set when it
was clear before the first. -/
theorem drawingTwiceRestoresScreen : Obligations.DrawingTwiceRestoresScreen := by
  intro x y n s t u hfits hfirst hscreen hx hy hi hbytes
  obtain ⟨t', hfirst', hflipped, -⟩ := (drawFlipsSpriteCells x y n s).1 hfits
  obtain rfl : t = t' := Host.Outcome.next.inj (hfirst.symm.trans hfirst')
  obtain ⟨v, hsecond, hrestored, hcollision, hnocollision, -⟩ := (drawFlipsSpriteCells x y n u).1 (hi ▸ hfits)
  simp only [hx, hy, spriteCovers_congr hi hbytes, hscreen] at hrestored hcollision hnocollision
  refine ⟨v, hsecond, fun c => ?_, fun hflag => ?_, fun ⟨c, hcovers, hclear⟩ => ?_⟩
  · by_cases hcovers : SpriteCovers s (s.reg x).toNat (s.reg y).toNat n.toNat c.val
    · rw [(hrestored c).1 hcovers, (hflipped c).1 hcovers, Bool.not_not]
    · rw [(hrestored c).2 hcovers, (hflipped c).2 hcovers]
  · by_contra hnone
    have hzero : v.reg 15 = 0 := hnocollision fun c hcovers => by
      rw [(hflipped c).1 hcovers, Bool.not_eq_false']
      exact Bool.of_not_eq_false fun hclear => hnone ⟨c, hcovers, hclear⟩
    exact absurd (hzero.symm.trans hflag) (by decide)
  · exact hcollision ⟨c, hcovers, by rw [(hflipped c).1 hcovers, hclear, Bool.not_false]⟩

end Sys2Proof
end

section
/-! PROOFS. The timer and key claims (spec 45_timers_keys.md): the skips on a key (R220 to R222), the read of DT (R223) and the
wait for a key (R224). -/

namespace Sys2Proof

open Machine

theorem keyPressed_iff {s : State} {k : Fin 16} : s.keyPressed k = true ↔ s.keys[k] ≠ 0 := decide_eq_true_iff

theorem keyPressed_eq_false_iff {s : State} {k : Fin 16} : s.keyPressed k = false ↔ s.keys[k] = 0 :=
  decide_eq_false_iff_not.trans not_not

/-! ### The skips on a key -/

/-- A key index below 16 names the key to test (R220). -/
theorem withKeyIndex_of_eq {x k : Fin 16} {s : State} (body : Fin 16 → Result) (h : (s.reg x).toNat = k.val) :
    withKeyIndex x s body = body k :=
  (withKeyIndex_of_lt body (h ▸ k.isLt)).trans (congrArg body (Fin.ext h))

theorem exec_skpVx (x : Fin 16) (s : State) :
    exec (.skpVx x) s = withKeyIndex x s fun k => endCycle (.skip (s.keyPressed k)) s := rfl

theorem exec_sknpVx (x : Fin 16) (s : State) :
    exec (.sknpVx x) s = withKeyIndex x s fun k => endCycle (.skip (!s.keyPressed k)) s := rfl

theorem exec_skpVx_of_eq {x k : Fin 16} {s : State} (h : (s.reg x).toNat = k.val) :
    exec (.skpVx x) s = endCycle (.skip (¬ s.keys[k] = 0)) s :=
  (exec_skpVx x s).trans (withKeyIndex_of_eq _ h)

theorem exec_sknpVx_of_eq {x k : Fin 16} {s : State} (h : (s.reg x).toNat = k.val) :
    exec (.sknpVx x) s = endCycle (.skip (s.keys[k] = 0)) s := by
  have hreleased : (!s.keyPressed k) = decide (s.keys[k] = 0) := by simp [State.keyPressed]
  rw [exec_sknpVx, withKeyIndex_of_eq _ h, hreleased]

/-- Settles O50: EXA1 skips on a key that is 0, EX9E on one that is not; without a key to test both take the fault entry. -/
theorem skipsTestKey : Obligations.SkipsTestKey :=
  ⟨fun _ _ _ hk => ⟨exec_only_skips_unless (exec_skpVx_of_eq hk), exec_only_skips (exec_sknpVx_of_eq hk)⟩,
    fun x s hx => ⟨(exec_skpVx x s).trans (withKeyIndex_of_ge _ hx), (exec_sknpVx x s).trans (withKeyIndex_of_ge _ hx)⟩⟩

/-! ### The delay timer -/

/-- Settles O51: the register write takes DT from the state the timer step has not yet touched. -/
theorem readDelayTimerBeforeItCounts : Obligations.ReadDelayTimerBeforeItCounts := fun _ _ => exec_writes_reg rfl

/-! ### The wait for a key -/

theorem exec_ldVxK_of_pressed {x k : Fin 16} {s : State} (h : s.firstPressed = some k) :
    exec (.ldVxK x) s = endCycle .next (s.setReg x (BitVec.ofNat 8 k.val)) := by
  show execLdVxK x s = _
  rw [execLdVxK, h]

theorem exec_ldVxK_of_none {x : Fin 16} {s : State} (h : s.firstPressed = none) :
    exec (.ldVxK x) s = endCycle .wait s := by
  show execLdVxK x s = _
  rw [execLdVxK, h]

/-- Settles O52: the scan finds the lowest pressed key, whose number fits a byte; a scan that finds none ends the cycle with
`wait`. -/
theorem waitForKeyTakesLowestKey : Obligations.WaitForKeyTakesLowestKey := by
  constructor
  · intro x k s hpressed hbelow
    have hfirst : s.firstPressed = some k :=
      State.firstPressed_some.2 ⟨keyPressed_iff.2 hpressed, fun j hj => keyPressed_eq_false_iff.2 (hbelow j hj)⟩
    obtain ⟨t, hexec, hreg, hframe⟩ := exec_writes_reg (exec_ldVxK_of_pressed (x := x) hfirst)
    refine ⟨t, hexec, ?_, hframe⟩
    rw [hreg, BitVec.toNat_ofNat, Nat.mod_eq_of_lt (by omega)]
  · intro x s hnone
    have hfirst : s.firstPressed = none := State.firstPressed_none.2 fun j => keyPressed_eq_false_iff.2 (hnone j)
    exact ⟨s.finish .wait, exec_ldVxK_of_none hfirst, keptBut_finish .wait (keptBut_refl s), rfl, rfl, rfl, rfl, rfl⟩

end Sys2Proof
end

section
/-! PROOFS. The claims on faults and the host (spec 60_exceptions.md): the load port (R257), the key events (R258), the
causes of a fault (R242), and the invariant under everything the host can do (R256). -/

namespace Sys2Proof

open Machine

/-! ### The load port (R257) -/

theorem loadWrite_of_accepted {s : State} {a : Nat} (b : Byte) (hs : s.fsm = .load) (hlow : 0x200 ≤ a)
    (hhigh : a ≤ 0xFFF) : loadWrite a b s = s.memWrite a b :=
  if_pos ⟨hs, hlow, hhigh⟩

theorem loadWrite_of_out_of_range {s : State} {a : Nat} (b : Byte) (ha : a < 0x200 ∨ 0xFFF < a) : loadWrite a b s = s :=
  if_neg (by omega)

theorem loadWrite_eq_or_eq (a : Nat) (b : Byte) (s : State) :
    loadWrite a b s = s.memWrite a b ∨ loadWrite a b s = s :=
  ite_eq_or_eq _ _ _

/-- Every cycle ends LOAD (R101, R107): the block stays halted, becomes ready or faults. -/
theorem step_ends_load {s t : State} (h : step s = .next t) : t.fsm ≠ .load := by
  by_cases hs : s.fsm = .fault
  · obtain rfl := Host.Outcome.next.inj (h.symm.trans (step_of_halted hs))
    simp [hs]
  · obtain hready | ⟨code, info, rfl⟩ := step_ends_ready_or_faults hs h
    · simp [hready]
    · simp

/-- Settles O6: an accepted write is the memory's own write. -/
theorem loadPortWritesOnlyInLoad : Obligations.LoadPortWritesOnlyInLoad := by
  intro a b s
  refine ⟨fun hs hlow hhigh c => ?_, fun hs hlow hhigh => ?_, fun hignored => ?_, fun _ => step_ends_load⟩
  · simp [loadWrite_of_accepted b hs hlow hhigh, State.memRead_memWrite, hhigh]
  · rw [loadWrite_of_accepted b hs hlow hhigh]
    rfl
  · obtain hs | ha := hignored
    · exact loadWrite_of_ne_load hs a b
    · exact loadWrite_of_out_of_range b ha

/-! ### Key events (R258) -/

theorem keyEvent_keys (k j : Fin 16) (pressed : Bool) (s : State) :
    (keyEvent k pressed s).keys[j] = if j = k then (if pressed then 1 else 0) else s.keys[j] := by
  simp [keyEvent, Vector.getElem_set, Fin.ext_iff, eq_comm]

/-- Settles O8: `setKey` writes KEYS alone. -/
theorem keyEventSetsOneKey : Obligations.KeyEventSetsOneKey :=
  fun k pressed s => ⟨fun j => keyEvent_keys k j pressed s, rfl⟩

/-! ### The causes of a fault (R242) -/

theorem faultCause_of_fetch_past {s : State} (hpc : 0xFFF ≤ s.pc.toNat) :
    faultCause s = some (.fetchBounds, max s.pc.toNat 0x1000) :=
  if_pos (Nat.lt_succ_of_le hpc)

theorem faultCause_of_unknown {s : State} {op : Word} (hpc : s.pc.toNat < 0xFFF)
    (hdecode : decode s.fetchWord = .unknown op) : faultCause s = none := by
  unfold faultCause
  rw [if_neg (by omega), hdecode]

/-- One row of R242 as `faultCause` writes it, with its condition in any equivalent form. -/
theorem cause_eq_some_iff {p q : Prop} [Decidable p] {c code : FaultCode} {n info : Nat} (hpq : p ↔ q) :
    (if p then some (c, n) else none) = some (code, info) ↔ code = c ∧ info = n ∧ q := by
  rw [Option.ite_none_right_eq_some, hpq, Option.some.injEq, Prod.mk.injEq, eq_comm (a := c), eq_comm (a := n),
    and_comm, and_assoc]

/-- Past the fetch, the list of R242 is the list of what the execution of the instructions can raise. -/
theorem faultCause_eq_some_iff {s : State} {i : Instr} {code : FaultCode} {info : Nat} (hpc : s.pc.toNat < 0xFFF)
    (hdecode : decode s.fetchWord = .instr i) : faultCause s = some (code, info) ↔ ExecFaults i s code info := by
  unfold faultCause
  rw [if_neg (by omega), hdecode]
  cases i with
  | callNnn nnn => exact cause_eq_some_iff Fin.ext_iff
  | drwVxVyN x y n =>
    by_cases hn : n = 0
    · simp [ExecFaults, hn]
    · have hpos : 0 < n.toNat := Nat.pos_of_ne_zero fun h => hn (BitVec.eq_of_toNat_eq h)
      simp only [hn, if_false]
      exact cause_eq_some_iff (by omega)
  | ldBVx | ldMemVx | ldVxMem => exact cause_eq_some_iff (by omega)
  | skpVx | sknpVx => exact cause_eq_some_iff Iff.rfl
  | _ => simp [ExecFaults]

/-- What an instruction raises fits FAULT_INFO (R39). -/
theorem info_lt_of_execFaults {i : Instr} {s : State} {code : FaultCode} {info : Nat} (h : ExecFaults i s code info) :
    info < 65536 := by
  cases i with
  | callNnn | drwVxVyN | ldBVx | ldMemVx | ldVxMem | skpVx | sknpVx =>
    obtain ⟨-, rfl, -⟩ := h
    omega
  | _ => exact h.elim

/-- A cycle of a block that is not halted, by its cause of a fault: the fault entry with that cause, or a ready block
that keeps FAULT_CODE and FAULT_INFO. -/
theorem step_cases_by_cause {s : State} (hs : s.fsm ≠ .fault) :
    (∃ code info, faultCause s = some (code, info) ∧ info < 65536 ∧
      step s = .next (s.deassertStrobes.raiseFault code info)) ∨
    (faultCause s = none ∧
      ∃ t, step s = .next t ∧ t.fsm = .ready ∧ t.faultCode = s.faultCode ∧ t.faultInfo = s.faultInfo) := by
  obtain ⟨hhalted, -⟩ | ⟨-, hpc, hstep⟩ | ⟨-, hpc, op, hdecode, hstep⟩ | ⟨-, hpc, i, hdecode, hexec⟩ := step_cases s
  · exact absurd hhalted hs
  · have := s.pc.isLt
    exact .inl ⟨_, _, faultCause_of_fetch_past hpc, by omega, hstep⟩
  · exact .inr ⟨faultCause_of_unknown hpc hdecode, _, hstep, rfl, rfl, rfl⟩
  · obtain ⟨u, a, hfinish, hbody, hnone⟩ | ⟨code, info, hfault, hcause⟩ := exec_answers i s.deassertStrobes
    · refine .inr ⟨?_, _, hexec.trans hfinish, State.finish_fsm u a, by simp [hbody.faultCode],
        by simp [hbody.faultInfo]⟩
      exact Option.eq_none_iff_forall_ne_some.2 fun ⟨code, info⟩ hc =>
        hnone code info ((faultCause_eq_some_iff hpc hdecode).1 hc)
    · exact .inl ⟨code, info, (faultCause_eq_some_iff hpc hdecode).2 hcause, info_lt_of_execFaults hcause,
        hexec.trans hfault⟩

/-- Settles O15: the info of every cause fits the 16 bits of FAULT_INFO. -/
theorem cyclesFaultExactlyAsListed : Obligations.CyclesFaultExactlyAsListed := by
  intro s hs
  obtain ⟨code, info, hcause, hinfo, hstep⟩ | ⟨hcause, hready⟩ := step_cases_by_cause hs
  · rw [hcause]
    exact ⟨_, hstep, rfl, rfl, (BitVec.toNat_ofNat info 16).trans (Nat.mod_eq_of_lt hinfo)⟩
  · rw [hcause]
    exact hready

/-! ### The invariant under the host's actions (R256) -/

theorem exists_step_next (s : State) : ∃ t, step s = .next t := by
  by_cases hs : s.fsm = .fault
  · exact ⟨_, step_of_halted hs⟩
  · obtain ⟨t, hstep, -⟩ := cyclesFaultExactlyAsListed s hs
    exact ⟨t, hstep⟩

theorem StateInv.memWrite {s : State} (h : StateInv s) (a : Nat) (b : Byte) : StateInv (s.memWrite a b) :=
  ⟨State.memWrite_wf a b h.memory, h.pc, h.stack, h.keys, h.fault, h.unknown, h.strobe, h.quiet⟩

theorem StateInv.loadWrite {s : State} (h : StateInv s) (a : Nat) (b : Byte) : StateInv (loadWrite a b s) := by
  obtain hwritten | hignored := loadWrite_eq_or_eq a b s
  · exact hwritten ▸ h.memWrite a b
  · exact hignored.symm ▸ h

/-- The host writes a key as 0 or 1 (R33, R258). -/
theorem StateInv.keyEvent {s : State} (h : StateInv s) (k : Fin 16) (pressed : Bool) :
    StateInv (keyEvent k pressed s) where
  memory := h.memory
  pc := h.pc
  stack := h.stack
  keys j := by
    rw [keyEvent_keys]
    split
    · cases pressed <;> simp
    · exact h.keys j
  fault := h.fault
  unknown := h.unknown
  strobe := h.strobe
  quiet := h.quiet

/-- Settles O4: reset establishes the invariant whatever the state, the other three actions keep it. -/
theorem hostActionsKeepInvariant : Obligations.HostActionsKeepInvariant := by
  intro font act s h
  cases act with
  | reset seed => exact ⟨_, rfl, stateInv_resetWith font seed⟩
  | load a b => exact ⟨_, rfl, h.loadWrite a b⟩
  | key k pressed => exact ⟨_, rfl, h.keyEvent k pressed⟩
  | cycle =>
    obtain ⟨t, hstep⟩ := exists_step_next s
    exact ⟨t, hstep, stepKeepsInvariant s t h hstep⟩

end Sys2Proof
end

section
/-! PROOFS. The claims on reset and the program loader (spec 70_reset_and_hazards.md R270, R272). Through the load port an
image that fits above 0x200 is one store of its bytes, so that the memory's own rules for `memWriteBytes` apply. -/

namespace Sys2Proof

open Machine

/-! ### The program loader (R272) -/

/-- In LOAD the port takes every byte of an image that starts at 0x200 or above and ends inside the memory, and taking
one byte keeps the block in LOAD. -/
theorem loadImageFrom_eq_memWriteBytes {s : State} {a : Nat} (image : List Byte) (hs : s.fsm = .load) (hlow : 0x200 ≤ a)
    (hhigh : a + image.length ≤ 0x1000) : loadImageFrom a s image = s.memWriteBytes a image := by
  induction image generalizing s a with
  | nil => rfl
  | cons b bs ih =>
    rw [List.length_cons] at hhigh
    calc loadImageFrom (a + 1) (loadWrite a b s) bs
      _ = loadImageFrom (a + 1) (s.memWrite a b) bs := by rw [loadWrite_of_accepted b hs hlow (by omega)]
      _ = (s.memWrite a b).memWriteBytes (a + 1) bs := ih hs (by omega) (by omega)

theorem loadImage_eq_memWriteBytes {s : State} {image : List Byte} (hs : s.fsm = .load) (hlen : image.length ≤ 3584) :
    loadImage image s = s.memWriteBytes 0x200 image :=
  loadImageFrom_eq_memWriteBytes image hs le_rfl (by omega)

/-- Settles O7: a loaded image is one store at 0x200, and 0x200 + 3584 is the end of the memory. -/
theorem imageStandsAtProgramStart : Obligations.ImageStandsAtProgramStart := by
  intro image s hs hlen
  rw [loadImage_eq_memWriteBytes hs hlen]
  exact ⟨fun j hj => State.memRead_memWriteBytes_inside s 0x200 image j hj (by omega),
    State.memRead_memWriteBytes_outside s 0x200 image, State.memWriteBytes_eq s 0x200 image⟩

/-! ### Reset (R270) -/

/-- Settles O1: reset ignores the state before it; MEM holds the font it is given, RNG the seed, and every other piece of
state its value in `State.reset`. -/
theorem resetLeavesStatedValues : Obligations.ResetLeavesStatedValues := by
  intro font seed _
  exact ⟨fun a _ => State.resetWith_memRead font seed a, State.resetWith_reg font seed, State.resetWith_i font seed,
    State.resetWith_slot font seed, State.resetWith_sp font seed, State.resetWith_dt font seed,
    State.resetWith_st font seed, State.resetWith_keyPressed font seed, State.resetWith_keys font seed,
    State.resetWith_cell font seed, congrArg BitVec.toNat (State.resetWith_pc font seed),
    State.resetWith_rng font seed, State.resetWith_faultCode font seed, State.resetWith_faultInfo font seed,
    State.resetWith_unkSeen font seed, State.resetWith_lastUnknown font seed, State.resetWith_fsm font seed⟩

end Sys2Proof
end
